-- ==== Sys2Proof/Word.lean ====
section
/-! DEFINITION. The word types of the LZWQ block: the 32-bit bus word, the byte, the 24-bit colour and the i32 of the training arithmetic (spec/00_scope.md R11, R13). -/

namespace Sys2Proof

/-- A word of the host bus (20_memory.md R72). -/
abbrev Word := BitVec 32

/-- A `u8` of 00_scope.md R13. -/
abbrev Byte := BitVec 8

/-- An `i32` of 00_scope.md R13: two's complement, with `+`, `-` and `*` that wrap modulo 2^32. -/
abbrev I32 := BitVec 32

/-- A 24-bit colour, 8 bits per channel (00_scope.md R11). -/
structure RGB where
  r : Byte
  g : Byte
  b : Byte
  deriving DecidableEq, Repr

end Sys2Proof
end

