-- ==== Sys2Proof/Syntax.lean ====
section
/-! DEFINITION. The command set: one constructor per row of spec/opcode_table.json (30_encoding.md R91). -/

namespace Sys2Proof

/-- The eight commands of 30_encoding.md R91. They carry no operands in the word (R93): every
operand comes from the configuration snapshot or from the block's memories. -/
inductive Instr where
  | nop
  | softReset
  | train
  | map
  | transFind
  | compress
  | quantize
  | frame
  deriving DecidableEq, Repr

end Sys2Proof
end

