-- ==== Sys2Proof/WellFormed.lean ====
section
/-! DEFINITION. Which command words and commands are well formed (30_encoding.md R90 to R92). -/

namespace Sys2Proof

/-- A command has no field that could be out of range (30_encoding.md R93: "Commands carry no
immediates or register numbers"), so each of the eight is well formed. -/
def Instr.wf : Instr → Bool
  | .nop => true
  | .softReset => true
  | .train => true
  | .map => true
  | .transFind => true
  | .compress => true
  | .quantize => true
  | .frame => true

/-- The first check on a command word: RSVD = `v[31:4]` is 0 (30_encoding.md R90). -/
def CmdWord.reservedClear (v : Word) : Bool := v.toNat / 16 == 0

/-- The second check on a command word: OP = `v[3:0]` is not one of 0x8 to 0xF (30_encoding.md R91). -/
def CmdWord.opcodeDefined (v : Word) : Bool := decide (v.toNat % 16 < 8)

/-- A command word is legal when both checks hold (30_encoding.md R92). -/
def CmdWord.wf (v : Word) : Bool := CmdWord.reservedClear v && CmdWord.opcodeDefined v

end Sys2Proof
end

