-- ==== Sys2Proof/Decode.lean ====
section
/-! DEFINITION. The command decoder and, after it, the encoder (30_encoding.md R90 to R92). -/

namespace Sys2Proof

/-- OP, the bits [3:0] of a command word (30_encoding.md R90). -/
def CmdWord.op (v : Word) : BitVec 4 := v.extractLsb' 0 4

/-- RSVD, the bits [31:4] of a command word (30_encoding.md R90). -/
def CmdWord.rsvd (v : Word) : BitVec 28 := v.extractLsb' 4 28

/-- Why a command word is illegal (30_encoding.md R92). Both are answered with BAD_OPCODE. -/
inductive DecodeError where
  /-- RSVD is not 0. -/
  | reservedBits
  /-- OP is one of 0x8 to 0xF. -/
  | reservedOpcode
  deriving DecidableEq, Repr

/-- The opcode map of 30_encoding.md R91, by the value of OP. -/
def decodeOp : Nat → Except DecodeError Instr
  | 0 => .ok .nop
  | 1 => .ok .softReset
  | 2 => .ok .train
  | 3 => .ok .map
  | 4 => .ok .transFind
  | 5 => .ok .compress
  | 6 => .ok .quantize
  | 7 => .ok .frame
  | _ => .error .reservedOpcode

/-- The decoder: "A command word selects a command only when RSVD = 0" (30_encoding.md R91). -/
def decode (v : Word) : Except DecodeError Instr :=
  if CmdWord.rsvd v = 0 then decodeOp (CmdWord.op v).toNat else .error .reservedBits

/-- The decoder on an instruction's bits as spec/opcode_table.json numbers them. A command is one
32-bit word written whole over the bus, so its bits are the word's bits. -/
def decodeTableWord (nbits w : Nat) : Option Instr :=
  if w % 2 ^ nbits < 2 ^ 32 then
    match decode (BitVec.ofNat 32 (w % 2 ^ nbits)) with
    | .ok i => some i
    | .error _ => none
  else none

/-- The opcode of a command (the OP column of 30_encoding.md R91). -/
def Instr.op : Instr → BitVec 4
  | .nop => 0x0
  | .softReset => 0x1
  | .train => 0x2
  | .map => 0x3
  | .transFind => 0x4
  | .compress => 0x5
  | .quantize => 0x6
  | .frame => 0x7

/-- The command word of a command: RSVD = 0 above its OP (30_encoding.md R90). -/
def encode (i : Instr) : Word := (0 : BitVec 28) ++ i.op

end Sys2Proof
end

