-- ==== Sys2Proof/Config.lean ====
section
/-! DEFINITION. What an implementation of the block fixes, and the values the spec leaves open. -/

namespace Sys2Proof

/-- The two capacities an implementation chooses: `MAX_PIXELS` (00_scope.md R8) and `OUT_CAP`
(R9). They are a constant part of the state, so that every statement holds for every choice
(DESIGN CHOICE, safe: log entry 1). -/
structure Config.Params where
  maxPixels : Nat
  outCap    : Nat
  deriving DecidableEq, Repr

/-- `BASE`, the OPEN parameter of 00_scope.md R10: where the platform places the block. Every
address of the model is an offset from it, and nothing in the block depends on it (log entry 2). -/
opaque Config.base : Nat

/-- A free word: what a result register reads while a command runs (10_state.md R54: "a host read
returns any value"), a fresh one for each draw (log entry 10). -/
opaque Config.freeWord : Nat → Word

/-- A free byte: what a memory cell holds whose contents the spec leaves open (10_state.md R46,
R47, R50), by the draw the cell's memory stands at and the cell's address (log entries 8 and 9). -/
opaque Config.openByte : Nat → Nat → Byte

end Sys2Proof
end

