-- ==== Sys2Proof/Machine/State.lean ====
section
/-! DEFINITION. The state of the LZWQ block as plain data (spec/10_state.md), its reset value (70_reset_and_hazards.md R281), and the reasons a step could stop. -/

namespace Sys2Proof.Machine

/-- The command error codes of 60_exceptions.md R251. The reserved codes 7 to 15 are "never
written", so they have no constructor. -/
inductive ErrCode where
  | none
  | cmdWhileBusy
  | badOpcode
  | badGeom
  | noPalette
  | indexRange
  | outOverflow
  deriving DecidableEq, Repr

/-- `CmdError(code, info)` of 00_scope.md R15. -/
structure CmdError where
  code : ErrCode
  info : Word
  deriving DecidableEq, Repr

/-- The configuration snapshot of 40_control.md R123. -/
structure Snapshot where
  w  : BitVec 16
  h  : BitVec 16
  n  : Word
  q  : BitVec 16
  p  : BitVec 4
  t  : RGB
  te : Bool
  deriving DecidableEq, Repr

/-- One neuron of the training network: `net[k]`, `freq[k]` and `bias[k]` of 41_quantizer.md R142. -/
structure Neuron where
  r    : I32
  g    : I32
  b    : I32
  freq : I32
  bias : I32
  deriving DecidableEq, Repr

/-- The hidden training state of 41_quantizer.md R142 (10_state.md R51). Neuron k is `net[k]`. -/
structure Training where
  net          : List Neuron
  radpower     : List I32
  samplefac    : I32
  alphadec     : I32
  samplepixels : I32
  delta        : I32
  alpha        : I32
  radius       : I32
  rad          : I32
  step         : I32
  pos          : I32
  i            : I32
  deriving DecidableEq, Repr

/-- The hidden compression state of 43_lzw.md R204 (10_state.md R52), with the minimum code size m
it was started with, the current prefix `ent` of R209 and the stream S produced so far. -/
structure Coder where
  m         : Nat
  s         : List Byte
  blk       : List Byte
  acc       : Nat
  nacc      : Nat
  n         : Nat
  free      : Nat
  clearflag : Bool
  dict      : List ((Nat × Nat) × Nat)
  ent       : Nat
  deriving DecidableEq, Repr

/-- What exists only inside a BUSY period (10_state.md R51 to R53): the snapshot, the training and
compression state of the phases that ran, and the error the command has raised, which its
completion records (60_exceptions.md R254; DEDUCED, log entries 6 and 12). -/
structure Running where
  snap     : Snapshot
  training : Option Training
  coder    : Option Coder
  error    : Option CmdError
  deriving DecidableEq, Repr

/-- PALMEM, PIXMEM, IDXMEM and OUTMEM as one list of (bus byte offset, byte) pairs, by rising
offset. `tag` and `outTag` say which draw of free bytes the unlisted cells of PIXMEM and IDXMEM,
and those of OUTMEM, hold (log entries 8, 9 and 14). -/
structure Memory where
  cells  : List Host.Cell
  tag    : Nat
  outTag : Nat
  deriving DecidableEq, Repr

/-- One event at the block: a host access at an offset from BASE (20_memory.md R70), the block's
completion transition (40_control.md R131), or the reset input (70_reset_and_hazards.md R280). -/
inductive Event where
  | read (addr : BitVec 26)
  | write (addr : BitVec 26) (data : Word)
  | complete
  | reset
  deriving DecidableEq, Repr

/-- The two bus responses of 00_scope.md R15. -/
inductive Resp where
  | okay
  | slverr
  deriving DecidableEq, Repr

/-- The answer to a host access: the response, and the data of a read (0 for a write and for
SLVERR). -/
structure Response where
  resp : Resp
  data : Word
  deriving DecidableEq, Repr

/-- The whole state of the block. STATUS.BUSY is `running` being present, STATUS.IRQ and PIX_COUNT
are computed, ID is a constant and CMD holds no state (10_state.md R22 to R53). -/
structure State where
  /-- MAXPIX and OUTCAP (R42, R43): constants of the block. -/
  params     : Config.Params
  /-- CTRL (R23). -/
  doneIe     : Bool
  errIe      : Bool
  transEn    : Bool
  /-- STATUS (R24 to R31). -/
  done       : Bool
  err        : Bool
  palValid   : Bool
  outValid   : Bool
  curOp      : BitVec 4
  /-- ERRCODE and ERRINFO (R33, R34). -/
  errCode    : ErrCode
  errInfo    : Word
  /-- GEOM, QUALITY, PALBITS and TRANS_RGB (R35 to R38). -/
  width      : BitVec 16
  height     : BitVec 16
  quality    : BitVec 16
  palBits    : BitVec 4
  transRgb   : RGB
  /-- TRANS_INDEX and OUT_LEN (R39, R40). -/
  transIndex : Byte
  outLen     : BitVec 25
  /-- USED[0..255] (R44, R49): bit k is USED[k]. -/
  used       : BitVec 256
  /-- PALMEM, PIXMEM, IDXMEM and OUTMEM (R46 to R48, R50). -/
  mem        : Memory
  /-- The running command: present exactly while STATUS.BUSY is 1 (R25). -/
  running    : Option Running
  /-- MODEL field: the events still to come, in order (log entry 3). -/
  inputs     : List Event
  /-- MODEL field: the response of the host access served last (log entry 13). -/
  resp       : Option Response
  /-- MODEL field: the counter of free values (log entry 10). -/
  free       : Nat
  deriving DecidableEq, Repr

/-- The reasons a step could stop with a fault. There are none: "every host access gets a
response" and "Every accepted command completes" (spec/93_implementation_defined.md), and every
error is a response or a record in the state (60_exceptions.md R250). Nobody raises one, so there
is nothing safe or unsafe to say of it. -/
inductive Fault where
  deriving DecidableEq, Repr

/-- The reasons a step could be refused. -/
inductive Refusal where
  /-- An instruction of the opcode table without a meaning in this model. Raised by no arm: every
  command has its meaning. Safe. -/
  | notModelled (mnemonic : String)
  deriving DecidableEq, Repr

/-- The state after reset, every value as 70_reset_and_hazards.md R281 gives it, with the spec's
default capacities (00_scope.md R8, R9). No event is pending, and no cell of PIXMEM, IDXMEM or
OUTMEM has a known value. -/
def State.reset : State where
  params     := ⟨76800, 115689⟩
  doneIe     := false
  errIe      := false
  transEn    := false
  done       := false
  err        := false
  palValid   := false
  outValid   := false
  curOp      := 0
  errCode    := .none
  errInfo    := 0
  width      := 320
  height     := 240
  quality    := 10
  palBits    := 8
  transRgb   := ⟨0, 0, 0⟩
  transIndex := 0
  outLen     := 0
  used       := 0
  mem        := ⟨[], 0, 0⟩
  running    := none
  inputs     := []
  resp       := none
  free       := 1

end Sys2Proof.Machine
end

