-- ==== Sys2Proof/Machine/Ops.lean ====
section
/-! DEFINITION. The named operations over memory and state: the byte memory behind the four windows (20_memory.md R71), the updates of the state, and recording a command error (60_exceptions.md R253) with the completion of a command beside it (40_control.md R125). -/

namespace Sys2Proof.Machine

/-! ## Where the memories lie (20_memory.md R71) -/

def palBase : Nat := 0x1000
def palEnd  : Nat := 0x1400
def pixBase : Nat := 0x1000000
def idxBase : Nat := 0x2000000
def outBase : Nat := 0x3000000

/-- Offset of PALMEM entry k, and of its b byte (20_memory.md R75, R78). -/
def palAddr (k : Nat) : Nat := palBase + 4 * k

/-- Offset of PIXMEM pixel i, and of its b byte (20_memory.md R75, R76). -/
def pixAddr (i : Nat) : Nat := pixBase + 4 * i

/-- Offset of IDX[i] (20_memory.md R77). -/
def idxAddr (i : Nat) : Nat := idxBase + i

/-- Offset of OUT[j] (20_memory.md R80). -/
def outAddr (j : Nat) : Nat := outBase + j

/-- The upper bound on the stream of an n-pixel input, OUT_BOUND of 00_scope.md R9. -/
def outBound (n : Nat) : Nat :=
  let codes := n + 2 + (n - 1) / 3839
  let d := (12 * codes + 7) / 8
  2 + d + (d + 253) / 254

/-! ## The byte memory -/

/-- What reset leaves in a cell: PALMEM is (0, 0, 0) everywhere (10_state.md R48), and for every
other cell the spec states no value. -/
def resetByte (a : Nat) : Option Byte :=
  if palBase ≤ a ∧ a < palEnd then some 0 else none

/-- What an unlisted address reads as: its reset value where the spec gives one, and else the free
byte of the draw its memory stands at (10_state.md R46, R47, R50; log entries 8 and 9). -/
def Memory.unlisted (m : Memory) (a : Nat) : Byte :=
  match resetByte a with
  | some v => v
  | none => Config.openByte (if outBase ≤ a then m.outTag else m.tag) a

/-- The byte listed for an address. -/
def findCell (a : Nat) : List Host.Cell → Option Byte
  | [] => none
  | c :: cs => if a = c.1 then some c.2 else findCell a cs

/-- One byte of memory. -/
def Memory.read (m : Memory) (a : Nat) : Byte :=
  match findCell a m.cells with
  | some v => v
  | none => m.unlisted a

/-- Puts a byte into a list of cells, which stays in rising order. -/
def putCell (a : Nat) (v : Byte) : List Host.Cell → List Host.Cell
  | [] => [(a, v)]
  | c :: cs =>
    if a < c.1 then (a, v) :: c :: cs
    else if a = c.1 then (a, v) :: cs
    else c :: putCell a v cs

/-- Stores one byte. Storing a cell's reset value removes the entry, so that the list keeps its
one canonical form (log entry 14). -/
def Memory.write (m : Memory) (a : Nat) (v : Byte) : Memory :=
  { m with cells := if resetByte a = some v then m.cells.filter (fun c => c.1 ≠ a)
                    else putCell a v m.cells }

/-- Stores bytes at consecutive addresses. -/
def Memory.writeBytes (m : Memory) (a : Nat) : List Byte → Memory
  | [] => m
  | v :: vs => (m.write a v).writeBytes (a + 1) vs

/-- The colour at an offset: b, g and r in the bytes 0, 1 and 2 of the word (20_memory.md R75). -/
def Memory.readColour (m : Memory) (a : Nat) : RGB :=
  ⟨m.read (a + 2), m.read (a + 1), m.read a⟩

/-- Stores a colour at an offset. Byte 3 of the word is no cell: it reads 0 and ignores writes. -/
def Memory.writeColour (m : Memory) (a : Nat) (c : RGB) : Memory :=
  ((m.write a c.b).write (a + 1) c.g).write (a + 2) c.r

/-- Stores colours in consecutive words. -/
def Memory.writeColours (m : Memory) (a : Nat) : List RGB → Memory
  | [] => m
  | c :: cs => (m.writeColour a c).writeColours (a + 4) cs

/-- Every entry of PALMEM back to (0, 0, 0) (40_control.md R128). -/
def Memory.clearPalette (m : Memory) : Memory :=
  { m with cells := m.cells.filter (fun c => ¬ (palBase ≤ c.1 ∧ c.1 < palEnd)) }

/-- Every byte of OUTMEM open again, at a new draw of free bytes (43_lzw.md R215, R216). -/
def Memory.openOut (m : Memory) (tag : Nat) : Memory :=
  { m with cells := m.cells.filter (fun c => c.1 < outBase), outTag := tag }

/-- The canonical form: addresses strictly rising, and no entry equal to the value reset leaves. -/
abbrev Memory.wf (m : Memory) : Prop :=
  m.cells.Pairwise (fun c d => c.1 < d.1) ∧ ∀ c ∈ m.cells, resetByte c.1 ≠ some c.2

/-- The byte cells that exist, by the capacities of the block: three per palette entry and pixel,
one per index and output byte (10_state.md R46 to R50). -/
def isCell (p : Config.Params) (a : Nat) : Bool :=
  (decide (palBase ≤ a ∧ a < palEnd) && a % 4 != 3) ||
  (decide (pixBase ≤ a ∧ a < pixBase + 4 * p.maxPixels) && a % 4 != 3) ||
  decide (idxBase ≤ a ∧ a < idxBase + p.maxPixels) ||
  decide (outBase ≤ a ∧ a < outBase + p.outCap)

/-- Every listed cell exists. -/
abbrev Memory.inBounds (p : Config.Params) (m : Memory) : Prop :=
  ∀ c ∈ m.cells, isCell p c.1 = true

/-! ## Updates of the state -/

namespace State

/-- STATUS.BUSY (10_state.md R25). -/
def busy (s : State) : Bool := s.running.isSome

def setMem (m : Memory) (s : State) : State := { s with mem := m }
def setUsed (u : BitVec 256) (s : State) : State := { s with used := u }
def setPalValid (v : Bool) (s : State) : State := { s with palValid := v }
def setTransIndex (v : Byte) (s : State) : State := { s with transIndex := v }
def setOutput (valid : Bool) (len : BitVec 25) (s : State) : State :=
  { s with outValid := valid, outLen := len }

/-- Draws one free value: the counter moves on (log entry 10). -/
def draw (s : State) : State := { s with free := s.free + 1 }

/-- The rest of the events once the first has been taken. -/
def setInputs (es : List Event) (s : State) : State := { s with inputs := es }

/-- Answers a host access (00_scope.md R15). -/
def respond (r : Resp) (d : Word) (s : State) : State := { s with resp := some ⟨r, d⟩ }

/-- `raise BusError`: SLVERR, no other effect, data 0 (00_scope.md R15, 20_memory.md R74). -/
def busError (s : State) : State := s.respond .slverr 0

/-- The hidden training state of the running command (10_state.md R51). -/
def setTraining (t : Training) (s : State) : State :=
  { s with running := s.running.map fun r => { r with training := some t } }

/-- The hidden compression state of the running command (10_state.md R52). -/
def setCoder (c : Coder) (s : State) : State :=
  { s with running := s.running.map fun r => { r with coder := some c } }

/-! ## Taking a command error, and completion -/

/-- TAKING AN EXCEPTION of this hardware. `raise CmdError(code, info)`: ERR is set and the record
is written, over any earlier one: "The last error wins" (60_exceptions.md R253). No state is
saved, no vector exists and no mode changes (R260). -/
def recordError (code : ErrCode) (info : Word) (s : State) : State :=
  { s with err := true, errCode := code, errInfo := info }

/-- The running command raises an error inside a phase. The command ends there, and its completion
records the error, so that it is the last one (60_exceptions.md R253, R254; DEDUCED, log entry 6). -/
def raiseInPhase (code : ErrCode) (info : Word) (s : State) : State :=
  { s with running := s.running.map fun r => { r with error := some ⟨code, info⟩ } }

/-- BUSY <- 0 and DONE <- 1, with the snapshot and the hidden state gone (40_control.md R125). -/
def finish (s : State) : State := { s with running := none, done := true }

/-- The completion of the running command (40_control.md R125), which records the error the
command has raised. Without a running command there is nothing to complete. -/
def complete (s : State) : State :=
  match s.running with
  | none => s
  | some r =>
    match r.error with
    | none => s.finish
    | some e => (s.recordError e.code e.info).finish

/-- THE RETURN from a command error is the host's acknowledgement (60_exceptions.md R261): the W1C
of STATUS.DONE (40_control.md R129). -/
def ackDone (s : State) : State := { s with done := false }

/-- The W1C of STATUS.ERR, which clears the record too (40_control.md R129). -/
def ackErr (s : State) : State := { s with err := false, errCode := .none, errInfo := 0 }

end State

end Sys2Proof.Machine
end

