-- ==== Sys2Proof/Machine/Operands.lean ====
section
/-! DEFINITION. The operands of the commands: the configuration snapshot (40_control.md R123) and the memories a command reads (30_encoding.md R93). -/

namespace Sys2Proof.Machine

/-- PIX[i] (10_state.md R46). -/
def Memory.pixel (m : Memory) (i : Nat) : RGB := m.readColour (pixAddr i)

/-- PAL[k] (10_state.md R48). -/
def Memory.palEntry (m : Memory) (k : Nat) : RGB := m.readColour (palAddr k)

/-- PAL[0..255]. -/
def Memory.palette (m : Memory) : List RGB := (List.range 256).map m.palEntry

/-- IDX[i] (10_state.md R47). -/
def Memory.index (m : Memory) (i : Nat) : Byte := m.read (idxAddr i)

/-- IDX[0..n-1]. -/
def Memory.indices (m : Memory) (n : Nat) : List Byte := (List.range n).map m.index

/-- OUT[j] (10_state.md R50). -/
def Memory.outByte (m : Memory) (j : Nat) : Byte := m.read (outAddr j)

/-- PIX_COUNT: `zext_32(GEOM.WIDTH) * zext_32(GEOM.HEIGHT)` of the current GEOM (10_state.md R41). -/
def State.pixCount (s : State) : Word := s.width.setWidth 32 * s.height.setWidth 32

/-- The snapshot of 40_control.md R123: "The command reads only these copies, never the live
registers." -/
def State.snapshot (s : State) : Snapshot where
  w  := s.width
  h  := s.height
  n  := s.width.setWidth 32 * s.height.setWidth 32
  q  := s.quality
  p  := s.palBits
  t  := s.transRgb
  te := s.transEn

/-! ## The written form of the configuration registers -/

/-- GEOM.WIDTH of a written word: 0 stores 320 (10_state.md R35). -/
def legalWidth (v : Word) : BitVec 16 :=
  if v.extractLsb' 0 16 = 0 then 320 else v.extractLsb' 0 16

/-- GEOM.HEIGHT of a written word: 0 stores 240 (10_state.md R35). -/
def legalHeight (v : Word) : BitVec 16 :=
  if v.extractLsb' 16 16 = 0 then 240 else v.extractLsb' 16 16

/-- QUALITY of a written word: 0 stores 1 (10_state.md R36). -/
def legalQuality (v : Word) : BitVec 16 :=
  if v.extractLsb' 0 16 = 0 then 1 else v.extractLsb' 0 16

/-- PALBITS of a written word: 0 stores 1, and values above 8 store 8 (10_state.md R37). -/
def legalPalBits (v : Word) : BitVec 4 :=
  if v.extractLsb' 0 4 = 0 then 1
  else if 8 < v.extractLsb' 0 4 then 8
  else v.extractLsb' 0 4

/-- The colour in a bus word: R in [23:16], G in [15:8], B in [7:0] (20_memory.md R75). -/
def wordColour (v : Word) : RGB :=
  ⟨v.extractLsb' 16 8, v.extractLsb' 8 8, v.extractLsb' 0 8⟩

/-- The bus word of a colour, `{8'h00, r, g, b}` (20_memory.md R75). -/
def colourWord (c : RGB) : Word := (0 : Byte) ++ c.r ++ c.g ++ c.b

/-- The bus word of a group of four bytes, byte 0 in [7:0] (20_memory.md R75). -/
def groupWord (b0 b1 b2 b3 : Byte) : Word := b3 ++ b2 ++ b1 ++ b0

/-- Byte b of a bus word, `v[8b+7:8b]` (20_memory.md R77). -/
def wordByte (v : Word) (b : Nat) : Byte := v.extractLsb' (8 * b) 8

namespace State

/-- A write to CTRL (10_state.md R23). -/
def writeCtrl (v : Word) (s : State) : State :=
  { s with doneIe := v.getLsbD 0, errIe := v.getLsbD 1, transEn := v.getLsbD 2 }

/-- A write to GEOM (10_state.md R35). -/
def writeGeom (v : Word) (s : State) : State :=
  { s with width := legalWidth v, height := legalHeight v }

/-- A write to QUALITY (10_state.md R36). -/
def writeQuality (v : Word) (s : State) : State := { s with quality := legalQuality v }

/-- A write to PALBITS (10_state.md R37). -/
def writePalBits (v : Word) (s : State) : State := { s with palBits := legalPalBits v }

/-- A write to TRANS_RGB (10_state.md R38). -/
def writeTransRgb (v : Word) (s : State) : State := { s with transRgb := wordColour v }

end State

end Sys2Proof.Machine
end

