-- ==== Sys2Proof/Machine/Flags.lean ====
section
/-! DEFINITION. The STATUS register, the interrupt output and the error code's number: everything the block has in place of flags (10_state.md R24 to R31, R55; 60_exceptions.md R251, R258). -/

namespace Sys2Proof.Machine

/-- The number of an error code in ERRCODE[3:0] (60_exceptions.md R251). -/
def ErrCode.code : ErrCode → BitVec 4
  | .none => 0
  | .cmdWhileBusy => 1
  | .badOpcode => 2
  | .badGeom => 3
  | .noPalette => 4
  | .indexRange => 5
  | .outOverflow => 6

namespace State

/-- The level of the interrupt output: `(DONE and DONE_IE) or (ERR and ERR_IE)`
(60_exceptions.md R258). -/
def irq (s : State) : Bool := (s.done && s.doneIe) || (s.err && s.errIe)

/-- CTRL as the host reads it: bits [31:3] read 0 (10_state.md R23). -/
def ctrlWord (s : State) : Word :=
  (0 : BitVec 29) ++ BitVec.ofBool s.transEn ++ BitVec.ofBool s.errIe ++ BitVec.ofBool s.doneIe

/-- The fields of STATUS in their places (10_state.md R24), with the two bits PAL_VALID and
OUT_VALID given. -/
def statusFields (palValid outValid : Bool) (s : State) : Word :=
  (0 : BitVec 20) ++ s.curOp ++ (0 : BitVec 2) ++ BitVec.ofBool s.irq ++ BitVec.ofBool outValid
    ++ BitVec.ofBool palValid ++ BitVec.ofBool s.err ++ BitVec.ofBool s.done
    ++ BitVec.ofBool s.busy

/-- STATUS as the host reads it. While BUSY is 1, PAL_VALID and OUT_VALID are free bits and every
other bit is exact (10_state.md R54; log entry 10). -/
def statusWord (s : State) : Word :=
  if s.busy then
    s.statusFields ((Config.freeWord s.free).getLsbD 3) ((Config.freeWord s.free).getLsbD 4)
  else s.statusFields s.palValid s.outValid

/-- A host write of v to STATUS: W1C of DONE and ERR, every other bit ignored (40_control.md R129). -/
def writeStatus (v : Word) (s : State) : State :=
  let s1 := if v.getLsbD 1 then s.ackDone else s
  if v.getLsbD 2 then s1.ackErr else s1

end State

end Sys2Proof.Machine
end

