-- ==== Sys2Proof/Machine/Bus.lean ====
section
/-! DEFINITION. The host's accesses to the registers and the memory windows (10_state.md R22 to R45, 20_memory.md R70 to R82). -/

namespace Sys2Proof.Machine

/-- The named registers of 10_state.md R22 to R44. -/
inductive Reg where
  | id
  | ctrl
  | status
  | cmd
  | errcode
  | errinfo
  | geom
  | quality
  | palbits
  | transRgb
  | transIndex
  | outLen
  | pixCount
  | maxpix
  | outcap
  | used (k : Nat)
  deriving DecidableEq, Repr

/-- What an offset selects (20_memory.md R71). -/
inductive Target where
  | reg (r : Reg)
  | pal (k : Nat)
  | pix (i : Nat)
  | idx (w : Nat)
  | out (w : Nat)
  deriving DecidableEq, Repr

/-- The register at an offset of the register page, if the page names one (10_state.md R22 to R45). -/
def regAt : Nat → Option Reg
  | 0x000 => some .id
  | 0x004 => some .ctrl
  | 0x008 => some .status
  | 0x00C => some .cmd
  | 0x010 => some .errcode
  | 0x014 => some .errinfo
  | 0x020 => some .geom
  | 0x024 => some .quality
  | 0x028 => some .palbits
  | 0x02C => some .transRgb
  | 0x030 => some .transIndex
  | 0x034 => some .outLen
  | 0x038 => some .pixCount
  | 0x03C => some .maxpix
  | 0x040 => some .outcap
  | 0x080 => some (.used 0)
  | 0x084 => some (.used 1)
  | 0x088 => some (.used 2)
  | 0x08C => some (.used 3)
  | 0x090 => some (.used 4)
  | 0x094 => some (.used 5)
  | 0x098 => some (.used 6)
  | 0x09C => some (.used 7)
  | _ => none

/-- The offset of CMD (10_state.md R32). -/
def cmdOffset : BitVec 26 := 0x00C

/-- The address map (20_memory.md R71). Nothing is selected by a misaligned offset (R73), by an
unmapped or unnamed one, or by one outside a window's valid part (R74). -/
def locate (p : Config.Params) (addr : BitVec 26) : Option Target :=
  let off := addr.toNat
  if off % 4 ≠ 0 then none
  else if off < palBase then (regAt off).map .reg
  else if off < palEnd then some (.pal ((off - palBase) / 4))
  else if off < pixBase then none
  else if off < idxBase then
    if (off - pixBase) / 4 < p.maxPixels then some (.pix ((off - pixBase) / 4)) else none
  else if off < outBase then
    if off - idxBase < p.maxPixels then some (.idx ((off - idxBase) / 4)) else none
  else if off - outBase < p.outCap then some (.out ((off - outBase) / 4)) else none

/-! ## Reads -/

/-- The registers whose reads are free while BUSY is 1, in whole or in part (10_state.md R54). -/
def Reg.openWhileBusy : Reg → Bool
  | .status => true
  | .transIndex => true
  | .outLen => true
  | .used _ => true
  | _ => false

/-- The word in a register, as a read gives it while nothing runs (10_state.md R22 to R44). -/
def regWord (s : State) : Reg → Word
  | .id => 0x4C5A5701
  | .ctrl => s.ctrlWord
  | .status => s.statusWord
  | .cmd => 0
  | .errcode => s.errCode.code.setWidth 32
  | .errinfo => s.errInfo
  | .geom => s.height ++ s.width
  | .quality => s.quality.setWidth 32
  | .palbits => s.palBits.setWidth 32
  | .transRgb => colourWord s.transRgb
  | .transIndex => s.transIndex.setWidth 32
  | .outLen => s.outLen.setWidth 32
  | .pixCount => s.pixCount
  | .maxpix => BitVec.ofNat 32 s.params.maxPixels
  | .outcap => BitVec.ofNat 32 s.params.outCap
  | .used k => s.used.extractLsb' (32 * k) 32

/-- The data of a register read. While BUSY is 1, TRANS_INDEX, OUT_LEN and USED0 to USED7 read a
free word, and STATUS has its two free bits (10_state.md R54; log entry 10). -/
def readReg (s : State) (r : Reg) : Word :=
  if s.busy = true ∧ r.openWhileBusy = true ∧ r ≠ .status then Config.freeWord s.free
  else regWord s r

/-- IDX'[j] of 20_memory.md R77. -/
def idxByte (s : State) (j : Nat) : Byte := if j < s.params.maxPixels then s.mem.index j else 0

/-- OUT'[j] of 20_memory.md R80. -/
def outByte (s : State) (j : Nat) : Byte := if j < s.params.outCap then s.mem.outByte j else 0

/-- The data of a window read (20_memory.md R76 to R80). -/
def readWindow (s : State) : Target → Word
  | .reg r => readReg s r
  | .pal k => colourWord (s.mem.palEntry k)
  | .pix i => colourWord (s.mem.pixel i)
  | .idx w => groupWord (idxByte s (4 * w)) (idxByte s (4 * w + 1)) (idxByte s (4 * w + 2))
      (idxByte s (4 * w + 3))
  | .out w => groupWord (outByte s (4 * w)) (outByte s (4 * w + 1)) (outByte s (4 * w + 2))
      (outByte s (4 * w + 3))

/-- `MemRead(addr, 4)` (00_scope.md R15). A read changes nothing but the answer and, where it drew
a free value, the counter of free values (20_memory.md R82). -/
def hostRead (addr : BitVec 26) (s : State) : State :=
  match locate s.params addr with
  | none => s.busError
  | some (.reg r) =>
    if s.busy = true ∧ r.openWhileBusy = true then (s.respond .okay (readReg s r)).draw
    else s.respond .okay (readReg s r)
  | some t => if s.busy then s.busError else s.respond .okay (readWindow s t)

/-! ## Writes -/

/-- A write to a register other than CMD: a write to an RO register is ignored (10_state.md R45).
CMD holds no state, and presenting its word is Machine/HostPort.lean's part. -/
def writeReg (v : Word) (s : State) : Reg → State
  | .ctrl => s.writeCtrl v
  | .status => s.writeStatus v
  | .geom => s.writeGeom v
  | .quality => s.writeQuality v
  | .palbits => s.writePalBits v
  | .transRgb => s.writeTransRgb v
  | .id => s
  | .cmd => s
  | .errcode => s
  | .errinfo => s
  | .transIndex => s
  | .outLen => s
  | .pixCount => s
  | .maxpix => s
  | .outcap => s
  | .used _ => s

/-- The bytes of a written IDXMEM word that have a cell (20_memory.md R77). -/
def idxBytes (p : Config.Params) (w : Nat) (v : Word) : List Byte :=
  [wordByte v 0, wordByte v 1, wordByte v 2, wordByte v 3].take (p.maxPixels - 4 * w)

/-- A write to a window (20_memory.md R76 to R78). OUTMEM is read-only (R80). -/
def writeWindow (v : Word) (s : State) : Target → State
  | .reg r => writeReg v s r
  | .pal k => (s.setMem (s.mem.writeColour (palAddr k) (wordColour v))).setPalValid true
  | .pix i => s.setMem (s.mem.writeColour (pixAddr i) (wordColour v))
  | .idx w => s.setMem (s.mem.writeBytes (idxAddr (4 * w)) (idxBytes s.params w v))
  | .out _ => s

/-- `MemWrite(addr, 4, v)` (00_scope.md R15) to anything but CMD. -/
def hostWrite (addr : BitVec 26) (v : Word) (s : State) : State :=
  match locate s.params addr with
  | none => s.busError
  | some (.out _) => s.busError
  | some (.reg r) => (writeReg v s r).respond .okay 0
  | some t => if s.busy then s.busError else (writeWindow v s t).respond .okay 0

end Sys2Proof.Machine
end

