-- ==== Sys2Proof/Machine/Accept.lean ====
section
/-! DEFINITION. Presenting, accepting and checking a command: what every command has in common (40_control.md R121 to R126). -/

namespace Sys2Proof.Machine

/-- Which commands check `N <= MAX_PIXELS` (40_control.md R126, order 1). -/
def checksGeometry : Instr → Bool
  | .nop => false
  | .softReset => false
  | .train => true
  | .map => true
  | .transFind => false
  | .compress => true
  | .quantize => true
  | .frame => true

/-- Which commands check `STATUS.PAL_VALID == 1` (40_control.md R126, order 2). -/
def checksPalette : Instr → Bool
  | .nop => false
  | .softReset => false
  | .train => false
  | .map => true
  | .transFind => true
  | .compress => false
  | .quantize => false
  | .frame => false

/-- The first precondition of 40_control.md R126 that fails, with the record it leaves
(60_exceptions.md R252): BAD_GEOM before NO_PALETTE (R257). -/
def preconditionError (i : Instr) (s : State) : Option CmdError :=
  if checksGeometry i = true ∧ s.params.maxPixels < s.snapshot.n.toNat then
    some ⟨.badGeom, s.snapshot.n⟩
  else if checksPalette i = true ∧ s.palValid = false then some ⟨.noPalette, 0⟩
  else none

/-- Acceptance (40_control.md R124): the snapshot is taken, DONE, ERR and the error record are
cleared, CUR_OP is written and BUSY becomes 1. -/
def State.accept (i : Instr) (s : State) : State :=
  { s with
    done := false, err := false, errCode := .none, errInfo := 0, curOp := i.op,
    running := some ⟨s.snapshot, none, none, none⟩ }

/-- One command presented to the block (40_control.md R121, R124), as one transition (R131). While
BUSY is 1 the word is rejected and nothing else happens (R122). A failed precondition is recorded
and the command completes at once (60_exceptions.md R254; log entry 7). Else `body` gives the
command's whole effect from the snapshot and the accepted state. -/
def issue (i : Instr) (body : Snapshot → State → State) (s : State) :
    Host.Outcome State Fault Refusal :=
  .next (if s.busy then s.recordError .cmdWhileBusy (encode i)
    else match preconditionError i s with
      | some e => ((s.accept i).recordError e.code e.info).complete
      | none => body s.snapshot (s.accept i))

end Sys2Proof.Machine
end

