-- ==== Sys2Proof/Machine/Lzw.lean ====
section
/-! DEFINITION. COMPRESS: the LZW coder of spec/43_lzw.md. -/

namespace Sys2Proof.Machine

/-! ## Code constants (43_lzw.md R201, R202) -/

/-- Minimum code size `m = max(2, depth)` (43_lzw.md R201). -/
def minCodeSize (depth : Nat) : Nat := max 2 depth

def clearCode (m : Nat) : Nat := 2 ^ m
def eoiCode   (m : Nat) : Nat := 2 ^ m + 1
def firstCode (m : Nat) : Nat := 2 ^ m + 2
def maxMaxCode : Nat := 4096

/-- The largest code of width n before the width grows; width 12 holds until CLEAR
(43_lzw.md R208). -/
def maxCode (n : Nat) : Nat := if n < 12 then 2 ^ n - 1 else maxMaxCode

namespace Coder

/-- The state at the start of `lzw(m)` (43_lzw.md R204). -/
def start (m : Nat) : Coder where
  m         := m
  s         := [BitVec.ofNat 8 m]
  blk       := []
  acc       := 0
  nacc      := 0
  n         := m + 1
  free      := firstCode m
  clearflag := false
  dict      := []
  ent       := 0

/-- `put_byte(b)`: a full block of 254 bytes goes to S behind its length (43_lzw.md R206). -/
def putByte (b : Byte) (c : Coder) : Coder :=
  if c.blk.length + 1 = 254 then { c with s := c.s ++ (254 :: (c.blk ++ [b])), blk := [] }
  else { c with blk := c.blk ++ [b] }

/-- The loop `while nacc >= 8` of `emit`; the first argument bounds its passes (43_lzw.md R205). -/
def drain : Nat → Coder → Coder
  | 0, c => c
  | fuel + 1, c =>
    if 8 ≤ c.nacc then
      let c' := c.putByte (BitVec.ofNat 8 (c.acc % 256))
      drain fuel { c' with acc := c.acc / 256, nacc := c.nacc - 8 }
    else c

/-- `update_width()`, after every emitted code (43_lzw.md R207). -/
def updateWidth (c : Coder) : Coder :=
  if c.clearflag then { c with n := c.m + 1, clearflag := false }
  else if maxCode c.n < c.free then { c with n := c.n + 1 }
  else c

/-- A last partial byte, its high bits 0 (43_lzw.md R213). -/
def flushBits (c : Coder) : Coder :=
  let c' := if 0 < c.nacc then c.putByte (BitVec.ofNat 8 c.acc) else c
  { c' with acc := 0, nacc := 0 }

/-- A last partial block (43_lzw.md R213). -/
def flushBlock (c : Coder) : Coder :=
  if 0 < c.blk.length then
    { c with s := c.s ++ (BitVec.ofNat 8 c.blk.length :: c.blk), blk := [] }
  else c

/-- `final_flush()`: the last bits, the last block and the terminator (43_lzw.md R213, R214). -/
def finalFlush (c : Coder) : Coder :=
  let c' := c.flushBits.flushBlock
  { c' with s := c'.s ++ [0] }

/-- `emit(code)` (43_lzw.md R205). -/
def emit (code : Nat) (c : Coder) : Coder :=
  let c1 := { c with acc := c.acc + code * 2 ^ c.nacc, nacc := c.nacc + c.n }
  let c2 := (c1.drain c1.nacc).updateWidth
  if code = eoiCode c.m then c2.finalFlush else c2

/-- The code of a pair in the dictionary, a finite map (43_lzw.md R210). -/
def lookup (pair : Nat × Nat) : List ((Nat × Nat) × Nat) → Option Nat
  | [] => none
  | e :: es => if pair = e.1 then some e.2 else lookup pair es

/-- `dictionary_full()` (43_lzw.md R211). -/
def dictionaryFull (c : Coder) : Coder :=
  { c with dict := [], free := firstCode c.m, clearflag := true }.emit (clearCode c.m)

/-- One pass of the LZW loop, on the index x (43_lzw.md R209). -/
def pass (c : Coder) (x : Nat) : Coder :=
  match lookup (c.ent, x) c.dict with
  | some code => { c with ent := code }
  | none =>
    let c1 := c.emit c.ent
    let c2 := if c1.free < maxMaxCode
      then { c1 with dict := ((c.ent, x), c1.free) :: c1.dict, free := c1.free + 1 }
      else c1.dictionaryFull
    { c2 with ent := x }

/-- `end_of_input()`: the last data code and EOI (43_lzw.md R212). -/
def endOfInput (c : Coder) : Coder := (c.emit c.ent).emit (eoiCode c.m)

end Coder

/-- `lzw(m)` over IDX[0..N-1] (43_lzw.md R209). N is at least 1 (40_control.md R126), so the empty
list stands for no frame (log entry 15). -/
def lzw (m : Nat) (idx : List Byte) : Coder :=
  let c := { (Coder.start m).emit (clearCode m) with ent := (idx.headD 0).toNat }
  ((idx.tail.map BitVec.toNat).foldl Coder.pass c).endOfInput

/-- The output stream S of `lzw(m)`. -/
def lzwStream (m : Nat) (idx : List Byte) : List Byte := (lzw m idx).s

/-- The smallest position whose index is 2^m or above (43_lzw.md R203). -/
def rangeError (m : Nat) (idx : List Byte) : Option Nat :=
  idx.findIdx? (fun x => decide (2 ^ m ≤ x.toNat))

/-- OUT_VALID and OUT_LEN at the start of a COMPRESS phase (43_lzw.md R200), with OUTMEM open: the
phase leaves every byte outside its stream at any value (R215, R216; log entry 9). -/
def openOutput (s : State) : State :=
  ((s.setOutput false 0).setMem (s.mem.openOut s.free)).draw

/-- `commit(S)` (43_lzw.md R215). -/
def commit (stream : List Byte) (s : State) : State :=
  if s.params.outCap < stream.length then
    s.raiseInPhase .outOverflow (BitVec.ofNat 32 s.params.outCap)
  else
    (s.setMem (s.mem.writeBytes (outAddr 0) stream)).setOutput true
      (BitVec.ofNat 25 stream.length)

/-- `range_check(m)`, `lzw(m)` and `commit(S)` on given indices (43_lzw.md R200). -/
def compressIndices (m : Nat) (idx : List Byte) (s : State) : State :=
  match rangeError m idx with
  | some p => s.raiseInPhase .indexRange (BitVec.ofNat 32 p)
  | none => commit (lzwStream m idx) (s.setCoder (lzw m idx))

/-- The body `COMPRESS(depth)` (43_lzw.md R200). -/
def compressPhase (depth : Nat) (c : Snapshot) (s : State) : State :=
  compressIndices (minCodeSize depth) (s.mem.indices c.n.toNat) (openOutput s)

/-- The body of the COMPRESS command: depth P of the snapshot (43_lzw.md R200). -/
def compressBody (c : Snapshot) (s : State) : State := compressPhase c.p.toNat c s

/-- COMPRESS (43_lzw.md R200). -/
def execCompress (s : State) : Host.Outcome State Fault Refusal := issue .compress compressBody s

end Sys2Proof.Machine
end

