-- ==== Sys2Proof/Machine/Mapper.lean ====
section
/-! DEFINITION. MAP and TRANS_FIND (spec/42_mapper.md). -/

namespace Sys2Proof.Machine

/-- `|a - b|` on channel values, an exact natural number. -/
def absDiff (a b : Byte) : Nat := ((a.toNat : Int) - (b.toNat : Int)).natAbs

/-- The L1 distance of MAP (42_mapper.md R181). -/
def dist1 (p e : RGB) : Nat := absDiff p.r e.r + absDiff p.g e.g + absDiff p.b e.b

/-- The squared Euclidean distance of TRANS_FIND (42_mapper.md R185). -/
def dist2 (t e : RGB) : Nat := absDiff t.r e.r ^ 2 + absDiff t.g e.g ^ 2 + absDiff t.b e.b ^ 2

/-- The loop of `nearest` from entry k on, with the best so far (42_mapper.md R182). -/
def nearestLoop (p : RGB) : Nat → Nat → Nat → List RGB → Nat
  | _, best, _, [] => best
  | k, best, bestd, e :: es =>
    if dist1 p e < bestd then nearestLoop p (k + 1) k (dist1 p e) es
    else nearestLoop p (k + 1) best bestd es

/-- `nearest(p)`: the lowest index at the least L1 distance (42_mapper.md R182). -/
def nearest (p : RGB) : List RGB → Nat
  | [] => 0
  | e :: es => nearestLoop p 1 0 (dist1 p e) es

/-- The index MAP assigns to pixel i (42_mapper.md R180). -/
def mappedIndex (m : Memory) (i : Nat) : Byte := BitVec.ofNat 8 (nearest (m.pixel i) m.palette)

/-- The indices MAP assigns to PIX[0..n-1], in raster order (42_mapper.md R180). -/
def mappedIndices (m : Memory) (n : Nat) : List Byte := (List.range n).map (mappedIndex m)

/-- The used-entries set of the assigned indices (42_mapper.md R180, 10_state.md R49). -/
def usedOf (ks : List Byte) : BitVec 256 := ks.foldl (fun u k => u ||| 1#256 <<< k.toNat) 0

/-- The body of MAP (42_mapper.md R180). -/
def mapPhase (c : Snapshot) (s : State) : State :=
  (s.setMem (s.mem.writeBytes (idxAddr 0) (mappedIndices s.mem c.n.toNat))).setUsed
    (usedOf (mappedIndices s.mem c.n.toNat))

/-- MAP (42_mapper.md R180). -/
def execMap (s : State) : Host.Outcome State Fault Refusal := issue .map mapPhase s

/-- The loop of TRANS_FIND from entry k on, with the best so far and its distance
(42_mapper.md R184). -/
def transFindLoop (t : RGB) (used : BitVec 256) : Nat → Nat → Nat → List RGB → Nat
  | _, best, _, [] => best
  | k, best, dmin, e :: es =>
    if used.getLsbD k = true ∧ dist2 t e < dmin then transFindLoop t used (k + 1) k (dist2 t e) es
    else transFindLoop t used (k + 1) best dmin es

/-- The used entry nearest T, 0 when none is used (42_mapper.md R184, R186). -/
def transFind (t : RGB) (used : BitVec 256) (pal : List RGB) : Nat :=
  transFindLoop t used 0 0 (2 ^ 24) pal

/-- The body of TRANS_FIND (42_mapper.md R184). -/
def transFindPhase (c : Snapshot) (s : State) : State :=
  s.setTransIndex (BitVec.ofNat 8 (transFind c.t s.used s.mem.palette))

/-- TRANS_FIND (42_mapper.md R184). -/
def execTransFind (s : State) : Host.Outcome State Fault Refusal :=
  issue .transFind transFindPhase s

end Sys2Proof.Machine
end

