-- ==== Sys2Proof/Machine/Quantizer.lean ====
section
/-! DEFINITION. TRAIN: the palette training of spec/41_quantizer.md, the NeuQuant option of D15 (log entry 11), in i32 arithmetic (R143). -/

namespace Sys2Proof.Machine

/-! ## Constants (41_quantizer.md R141) -/

def netSize         : Nat := 256
def prime1          : I32 := 499
def prime2          : I32 := 491
def prime3          : I32 := 487
def prime4          : I32 := 503
def minPictureBytes : I32 := 1509
def netBiasShift    : Nat := 4
def nCycles         : I32 := 100
def intBiasShift    : Nat := 16
def intBias         : I32 := 65536
def gammaShift      : Nat := 10
def betaShift       : Nat := 10
def beta            : I32 := 64
def betaGamma       : I32 := 65536
def radiusBiasShift : Nat := 6
def initRadius      : I32 := 2048
def radiusDec       : I32 := 30
def initAlpha       : I32 := 1024
def radBias         : I32 := 256
def alphaRadBias    : I32 := 262144

/-! ## The network -/

/-- Neuron k at the start: on the grey diagonal, freq 256, bias 0 (41_quantizer.md R144). -/
def initNeuron (k : Nat) : Neuron :=
  let v := (BitVec.ofNat 32 k <<< 12).sdiv (BitVec.ofNat 32 netSize)
  ⟨v, v, v, intBias.sdiv (BitVec.ofNat 32 netSize), 0⟩

/-- `init_network()` (41_quantizer.md R144). -/
def initNetwork : List Neuron := (List.range netSize).map initNeuron

/-- An input of the network: three channels, each a pixel channel times 16 (41_quantizer.md R148). -/
structure Sample where
  r : I32
  g : I32
  b : I32
  deriving DecidableEq, Repr

/-- The input of a pixel: `zext_32(c) shl 4` for each channel (41_quantizer.md R148). -/
def sampleOf (p : RGB) : Sample :=
  ⟨p.r.setWidth 32 <<< 4, p.g.setWidth 32 <<< 4, p.b.setWidth 32 <<< 4⟩

/-- `rad <- radius asr RADIUSBIASSHIFT ; if rad <= 1: rad <- 0` (41_quantizer.md R145, R152). -/
def radOf (radius : I32) : I32 :=
  let rad := radius.sshiftRight radiusBiasShift
  if rad.sle 1 then 0 else rad

/-- One weight, `alpha * (((rad * rad - q * q) * RADBIAS) tdiv (rad * rad))` (41_quantizer.md R146). -/
def radWeight (alpha rad q : I32) : I32 :=
  alpha * ((rad * rad - q * q) * radBias).sdiv (rad * rad)

/-- `set_radpower()`: the entries below rad are written, the others stay (41_quantizer.md R146). -/
def setRadpower (alpha rad : I32) (old : List I32) : List I32 :=
  (List.range rad.toInt.toNat).map (fun q => radWeight alpha rad (BitVec.ofNat 32 q))
    ++ old.drop rad.toInt.toNat

/-! ## Competition (41_quantizer.md R149) -/

/-- The running minima of the competition. -/
structure Contest where
  bestd       : I32
  bestbiasd   : I32
  bestpos     : Int
  bestbiaspos : Int
  deriving DecidableEq, Repr

/-- The minima before the first neuron (41_quantizer.md R149). -/
def contestStart : Contest := ⟨0x7FFFFFFF, 0x7FFFFFFF, -1, -1⟩

/-- `|net[k].b - x.b| + |net[k].g - x.g| + |net[k].r - x.r|` (41_quantizer.md R149). -/
def neuronDist (x : Sample) (u : Neuron) : I32 :=
  (u.b - x.b).abs + (u.g - x.g).abs + (u.r - x.r).abs

/-- The minima after neuron k. The comparisons are strict, so the lowest k wins a tie
(41_quantizer.md R149). -/
def contestMinima (x : Sample) (k : Nat) (u : Neuron) (c : Contest) : Contest :=
  let dist := neuronDist x u
  let biasdist := dist - u.bias.sshiftRight (intBiasShift - netBiasShift)
  { bestd       := if dist.slt c.bestd then dist else c.bestd
    bestpos     := if dist.slt c.bestd then k else c.bestpos
    bestbiasd   := if biasdist.slt c.bestbiasd then biasdist else c.bestbiasd
    bestbiaspos := if biasdist.slt c.bestbiasd then k else c.bestbiaspos }

/-- Neuron k after the competition has passed it: its frequency decays and its bias grows
(41_quantizer.md R149). -/
def contestDecay (u : Neuron) : Neuron :=
  let betafreq := u.freq.sshiftRight betaShift
  { u with freq := u.freq - betafreq, bias := u.bias + betafreq <<< gammaShift }

/-- The minima over neurons k, k + 1, ... -/
def contestScan (x : Sample) : Nat → List Neuron → Contest → Contest
  | _, [], c => c
  | k, u :: us, c => contestScan x (k + 1) us (contestMinima x k u c)

/-- The frequency and bias of the nearest neuron (41_quantizer.md R149). -/
def contestReward (u : Neuron) : Neuron :=
  { u with freq := u.freq + beta, bias := u.bias - betaGamma }

/-- `contest(x)`: the network afterwards, and the number of the winning neuron
(41_quantizer.md R149). -/
def contest (x : Sample) (net : List Neuron) : List Neuron × Int :=
  let c := contestScan x 0 net contestStart
  ((net.map contestDecay).modify c.bestpos.toNat contestReward, c.bestbiaspos)

/-! ## Moving neurons (41_quantizer.md R150, R151) -/

/-- A neuron moved toward x: `c - ((a * (c - x.c)) tdiv d)` in each channel. -/
def moveToward (a d : I32) (x : Sample) (u : Neuron) : Neuron :=
  { u with
    r := u.r - (a * (u.r - x.r)).sdiv d
    g := u.g - (a * (u.g - x.g)).sdiv d
    b := u.b - (a * (u.b - x.b)).sdiv d }

/-- `altersingle(alpha, j, x)` (41_quantizer.md R150). -/
def alterSingle (alpha : I32) (j : Int) (x : Sample) (net : List Neuron) : List Neuron :=
  net.modify j.toNat (moveToward alpha initAlpha x)

/-- The loop of `alterneigh` from a_hi, a_lo and m on; the first argument bounds its passes
(41_quantizer.md R151). -/
def alterNeighLoop (radpower : List I32) (x : Sample) (lo hi : Int) :
    Nat → Int → Int → Nat → List Neuron → List Neuron
  | 0, _, _, _, net => net
  | fuel + 1, aHi, aLo, m, net =>
    if aHi < hi ∨ lo < aLo then
      let a := radpower.getD m 0
      let up := if aHi < hi then net.modify aHi.toNat (moveToward a alphaRadBias x) else net
      let down := if lo < aLo then up.modify aLo.toNat (moveToward a alphaRadBias x) else up
      alterNeighLoop radpower x lo hi fuel
        (if aHi < hi then aHi + 1 else aHi) (if lo < aLo then aLo - 1 else aLo) (m + 1) down
    else net

/-- `alterneigh(rad, j, x)`. Each pass moves a_hi up or a_lo down, so NETSIZE passes are enough
(41_quantizer.md R151). -/
def alterNeigh (radpower : List I32) (rad : I32) (j : Int) (x : Sample) (net : List Neuron) :
    List Neuron :=
  alterNeighLoop radpower x (max (j - rad.toInt) (-1)) (min (j + rad.toInt) netSize)
    netSize (j + 1) (j - 1) 1 net

/-! ## Learning (41_quantizer.md R145, R147, R148, R152) -/

/-- The sampling stride (41_quantizer.md R147). -/
def sampleStep (n : I32) : I32 :=
  if (3 * n).slt minPictureBytes then 1
  else if n.srem prime1 ≠ 0 then prime1
  else if n.srem prime2 ≠ 0 then prime2
  else if n.srem prime3 ≠ 0 then prime3
  else prime4

/-- The training state before the first sample, from N and Q (41_quantizer.md R144, R145, R147). -/
def trainingStart (n q : I32) : Training :=
  let lengthcount := 3 * n
  let samplefac := if lengthcount.slt minPictureBytes then 1 else q
  let samplepixels := lengthcount.sdiv (3 * samplefac)
  { net          := initNetwork
    samplefac    := samplefac
    alphadec     := 30 + (samplefac - 1).sdiv 3
    samplepixels := samplepixels
    delta        := samplepixels.sdiv nCycles
    alpha        := initAlpha
    radius       := initRadius
    rad          := radOf initRadius
    radpower     := setRadpower initAlpha (radOf initRadius) (List.replicate 32 0)
    step         := sampleStep n
    pos          := 0
    i            := 0 }

/-- `decay()` (41_quantizer.md R152). -/
def decay (t : Training) : Training :=
  let alpha := t.alpha - t.alpha.sdiv t.alphadec
  let radius := t.radius - t.radius.sdiv radiusDec
  { t with
    alpha := alpha, radius := radius, rad := radOf radius
    radpower := setRadpower alpha (radOf radius) t.radpower }

/-- The network after one sample: competition, the winner's move and the neighbours' moves
(41_quantizer.md R148 to R151). -/
def learnSample (x : Sample) (t : Training) : List Neuron :=
  let won := contest x t.net
  let moved := alterSingle t.alpha won.2 x won.1
  if t.rad ≠ 0 then alterNeigh t.radpower t.rad won.2 x moved else moved

/-- The next pixel position: `pos + step`, less N when it reaches N (41_quantizer.md R148). -/
def nextPos (n : I32) (t : Training) : I32 :=
  let pos := t.pos + t.step
  if n.sle pos then pos - n else pos

/-- The loop body up to `if delta == 0: delta <- 1`: one sample is learned, and pos and i move on
(41_quantizer.md R148). -/
def learnAdvance (pix : Nat → RGB) (n : I32) (t : Training) : Training :=
  { t with
    net   := learnSample (sampleOf (pix t.pos.toNat)) t
    pos   := nextPos n t
    i     := t.i + 1
    delta := if t.delta = 0 then 1 else t.delta }

/-- `if i % delta == 0: decay()` (41_quantizer.md R148). -/
def learnSchedule (t : Training) : Training := if t.i.srem t.delta = 0 then decay t else t

/-- One pass of the learning loop (41_quantizer.md R148). -/
def learnPass (pix : Nat → RGB) (n : I32) (t : Training) : Training :=
  learnSchedule (learnAdvance pix n t)

/-- So many passes of the learning loop. -/
def learnPasses (pix : Nat → RGB) (n : I32) : Nat → Training → Training
  | 0, t => t
  | k + 1, t => learnPasses pix n k (learnPass pix n t)

/-- `init_network()` and `learn(N, Q)`: the loop runs exactly samplepixels times
(41_quantizer.md R140, R148). -/
def learn (pix : Nat → RGB) (n q : I32) : Training :=
  let t := trainingStart n q
  learnPasses pix n t.samplepixels.toInt.toNat t

/-! ## The phase -/

/-- `net[k].c asr NETBIASSHIFT`, a channel of palette entry k (41_quantizer.md R153). -/
def freezeChannel (v : I32) : Byte := (v.sshiftRight netBiasShift).setWidth 8

/-- Palette entry k is neuron k (41_quantizer.md R153). -/
def freezeNeuron (u : Neuron) : RGB := ⟨freezeChannel u.r, freezeChannel u.g, freezeChannel u.b⟩

/-- The frozen palette (41_quantizer.md R153). -/
def paletteOf (t : Training) : List RGB := t.net.map freezeNeuron

/-- `write_palette()` (41_quantizer.md R153). -/
def writePalette (t : Training) (s : State) : State :=
  (s.setMem (s.mem.writeColours (palAddr 0) (paletteOf t))).setPalValid true

/-- The training a TRAIN phase performs on the snapshot (41_quantizer.md R140). -/
def trainingOf (c : Snapshot) (s : State) : Training := learn s.mem.pixel c.n (c.q.setWidth 32)

/-- The body of TRAIN: learn, freeze the palette, clear USED (41_quantizer.md R140, R154). -/
def trainPhase (c : Snapshot) (s : State) : State :=
  ((writePalette (trainingOf c s) s).setUsed 0).setTraining (trainingOf c s)

/-- TRAIN (41_quantizer.md R140). -/
def execTrain (s : State) : Host.Outcome State Fault Refusal := issue .train trainPhase s

end Sys2Proof.Machine
end

