-- ==== Sys2Proof/Machine/Compound.lean ====
section
/-! DEFINITION. QUANTIZE and FRAME: the phases in their fixed order on one snapshot (spec/44_compound.md). -/

namespace Sys2Proof.Machine

/-- The body of QUANTIZE (44_compound.md R240). -/
def quantizeBody (c : Snapshot) (s : State) : State := mapPhase c (trainPhase c s)

/-- QUANTIZE (44_compound.md R240). -/
def execQuantize (s : State) : Host.Outcome State Fault Refusal := issue .quantize quantizeBody s

/-- FRAME's third phase: TRANS_FIND when TE is 1, else TRANS_INDEX <- 0 (44_compound.md R241). -/
def frameTransparency (c : Snapshot) (s : State) : State :=
  if c.te then transFindPhase c s else s.setTransIndex 0

/-- The body of FRAME (44_compound.md R241). Only the last phase can raise an error, so no phase is
skipped (R242). -/
def frameBody (c : Snapshot) (s : State) : State :=
  compressPhase 8 c (frameTransparency c (mapPhase c (trainPhase c s)))

/-- FRAME (44_compound.md R241). -/
def execFrame (s : State) : Host.Outcome State Fault Refusal := issue .frame frameBody s

end Sys2Proof.Machine
end

