-- ==== Sys2Proof/Machine/Control.lean ====
section
/-! DEFINITION. NOP and SOFT_RESET (40_control.md R127, R128), and the reset input (70_reset_and_hazards.md R280). -/

namespace Sys2Proof.Machine

/-- NOP: `skip`, and it completes before the host's next access (40_control.md R127,
70_reset_and_hazards.md R290). -/
def nopBody (_ : Snapshot) (s : State) : State := s.complete

/-- NOP (40_control.md R127). -/
def execNop (s : State) : Host.Outcome State Fault Refusal := issue .nop nopBody s

/-- Every register of 10_state.md R22 to R44 at its reset value, with BUSY 0, and PALMEM and USED
cleared; PIXMEM, IDXMEM and OUTMEM "keep their contents" (40_control.md R128). -/
def softResetBody (_ : Snapshot) (s : State) : State :=
  { State.reset with
    params := s.params, mem := s.mem.clearPalette,
    inputs := s.inputs, resp := s.resp, free := s.free }

/-- SOFT_RESET (40_control.md R128): "SOFT_RESET leaves DONE = 0 after it completes", and "The
command completes before the host's next access, so BUSY is never seen as 1 for it." -/
def execSoftReset (s : State) : Host.Outcome State Fault Refusal :=
  issue .softReset softResetBody s

/-- The reset input (70_reset_and_hazards.md R280): a running command stops and never completes,
every register, PALMEM and USED take their reset values, and every cell of PIXMEM, IDXMEM and
OUTMEM holds any value: a new draw of free bytes. The events still to come and the capacities
stay (log entry 16). -/
def resetInput (s : State) : State :=
  { State.reset with
    params := s.params, mem := ⟨[], s.free, s.free⟩, inputs := s.inputs, free := s.free + 1 }

end Sys2Proof.Machine
end

