-- ==== Sys2Proof/Machine/Dispatch.lean ====
section
/-! DEFINITION. exec: one arm per command, each one call of its meaning (30_encoding.md R91). -/

namespace Sys2Proof.Machine

def exec (i : Instr) (s : State) : Host.Outcome State Fault Refusal :=
  match i with
  | .nop => Sys2Proof.Machine.execNop s
  | .softReset => Sys2Proof.Machine.execSoftReset s
  | .train => Sys2Proof.Machine.execTrain s
  | .map => Sys2Proof.Machine.execMap s
  | .transFind => Sys2Proof.Machine.execTransFind s
  | .compress => Sys2Proof.Machine.execCompress s
  | .quantize => Sys2Proof.Machine.execQuantize s
  | .frame => Sys2Proof.Machine.execFrame s

end Sys2Proof.Machine
end

