-- ==== Sys2Proof/Machine/HostPort.lean ====
section
/-! DEFINITION. The host port: a write to CMD presents a command word (40_control.md R121), and one event is served at a time (20_memory.md R84, 40_control.md R131). -/

namespace Sys2Proof.Machine

/-- A host write of v to CMD (40_control.md R121). CMD_WHILE_BUSY comes before BAD_OPCODE
(60_exceptions.md R257), and a legal word is the decoded command's. -/
def presentCommand (v : Word) (s : State) : Host.Outcome State Fault Refusal :=
  match decode v with
  | .ok i => exec i s
  | .error _ =>
    .next (if s.busy then s.recordError .cmdWhileBusy v else s.recordError .badOpcode v)

/-- One event (20_memory.md R84): a host access, the completion transition (40_control.md R131) or
the reset input (70_reset_and_hazards.md R280). The write to CMD "answers OKAY in every case"
(40_control.md R121). -/
def serve (e : Event) (s : State) : Host.Outcome State Fault Refusal :=
  match e with
  | .read addr => .next (hostRead addr s)
  | .write addr v =>
    if addr = cmdOffset then presentCommand v (s.respond .okay 0) else .next (hostWrite addr v s)
  | .complete => .next s.complete
  | .reset => .next (resetInput s)

/-- With no event left, a running command completes (70_reset_and_hazards.md R291), and without
one nothing happens (log entry 4). -/
def idle (s : State) : Host.Outcome State Fault Refusal := .next s.complete

end Sys2Proof.Machine
end

