-- ==== Sys2Proof/Machine/Step.lean ====
section
/-! DEFINITION. One step of the block: the next event in the order the events happen (40_control.md R131). -/

namespace Sys2Proof.Machine

/-- Serves the first pending event (log entry 3). -/
def step (s : State) : Host.Outcome State Fault Refusal :=
  match s.inputs with
  | [] => idle s
  | e :: es => serve e (s.setInputs es)

/-- The block fetches nothing (20_memory.md R87): a command word comes to it by the host's write to
CMD. So this puts that write before every other event, and the next step is the write (log entry 3). -/
def State.withFetchWord (s : State) (nbits w : Nat) : State :=
  s.setInputs (.write cmdOffset (BitVec.ofNat 32 (w % 2 ^ nbits)) :: s.inputs)

end Sys2Proof.Machine
end

