-- ==== Sys2Proof/Machine/StreamFormat.lean ====
section
/-! DEFINITION. The output stream of COMPRESS as a decoder sees it (30_encoding.md R94 to R99): the emitted codes, their widths, the bit packing, the sub-blocks, and the conventional decoder of 43_lzw.md R218. No step of the machine uses this file: the statements hold the coder of Machine/Lzw.lean against it. -/

namespace Sys2Proof.Machine

/-! ## The codes (43_lzw.md R209 to R212, without bits and widths) -/

/-- The codes still to be emitted, from the dictionary, its next free code and the current prefix,
for the indices still to come. -/
def codesFrom (m : Nat) : List ((Nat × Nat) × Nat) → Nat → Nat → List Nat → List Nat
  | _, _, ent, [] => [ent, eoiCode m]
  | dict, free, ent, x :: xs =>
    match Coder.lookup (ent, x) dict with
    | some code => codesFrom m dict free code xs
    | none =>
      if free < maxMaxCode then ent :: codesFrom m (((ent, x), free) :: dict) (free + 1) x xs
      else ent :: clearCode m :: codesFrom m [] (firstCode m) x xs

/-- All codes of the stream, from the first CLEAR to EOI. -/
def codesOf (m : Nat) : List Nat → List Nat
  | [] => clearCode m :: codesFrom m [] (firstCode m) 0 []
  | x :: xs => clearCode m :: codesFrom m [] (firstCode m) x xs

/-! ## The widths (30_encoding.md R98) -/

/-- `w_(j+1)` from `w_j` (30_encoding.md R98). -/
def nextWidth (m w j : Nat) : Nat := if w < 12 ∧ 2 ^ w - 1 < 2 ^ m + 1 + j then w + 1 else w

/-- Each code with its width: w is the width of the next code, and j its number after the last
CLEAR. The code after a CLEAR has width m + 1 and number 1. -/
def withWidths (m : Nat) : Nat → Nat → List Nat → List (Nat × Nat)
  | _, _, [] => []
  | w, j, c :: cs =>
    (c, w) :: if c = clearCode m then withWidths m (m + 1) 1 cs
              else withWidths m (nextWidth m w j) (j + 1) cs

/-- The codes of the stream with their widths; the first CLEAR has width m + 1. -/
def widthCodes (m : Nat) (idx : List Nat) : List (Nat × Nat) :=
  withWidths m (m + 1) 0 (codesOf m idx)

/-! ## Packing (30_encoding.md R96) -/

/-- The n bits of a code from its least significant bit up. -/
def codeBits (code n : Nat) : List Bool := (List.range n).map code.testBit

/-- The bit string B: the bits of every code in emission order. -/
def bitString (cs : List (Nat × Nat)) : List Bool := cs.flatMap fun c => codeBits c.1 c.2

/-- The value of up to eight bits, the first in bit 0. -/
def bitsValue : List Bool → Nat
  | [] => 0
  | b :: bs => b.toNat + 2 * bitsValue bs

/-- Byte q of the packed data holds the bits 8q to 8q + 7 of B, the last byte padded with zeros. -/
def packBits (bits : List Bool) : List Byte :=
  (List.range ((bits.length + 7) / 8)).map fun q =>
    BitVec.ofNat 8 (bitsValue ((bits.drop (8 * q)).take 8))

/-! ## Framing (30_encoding.md R94, R97) -/

/-- The data in consecutive sub-blocks of 254 bytes and a last one of 1 to 254, each behind its
length byte; the first argument bounds their number. -/
def subBlocks : Nat → List Byte → List Byte
  | 0, _ => []
  | fuel + 1, d =>
    if d = [] then []
    else (BitVec.ofNat 8 (d.take 254).length :: d.take 254) ++ subBlocks fuel (d.drop 254)

/-- The stream S of given indices: m, the sub-blocks, the terminator (30_encoding.md R94). -/
def streamOf (m : Nat) (idx : List Nat) : List Byte :=
  let d := packBits (bitString (widthCodes m idx))
  BitVec.ofNat 8 m :: (subBlocks d.length d ++ [0])

/-! ## The conventional decoder (43_lzw.md R218) -/

/-- The data of the sub-blocks up to the terminator, after which nothing may stand
(30_encoding.md R94, 43_lzw.md R214); the first argument bounds the number of sub-blocks. -/
def gatherBlocks : Nat → List Byte → Option (List Byte)
  | 0, _ => none
  | _ + 1, [] => none
  | fuel + 1, len :: rest =>
    if len = 0 then (if rest = [] then some [] else none)
    else if rest.length < len.toNat then none
    else (gatherBlocks fuel (rest.drop len.toNat)).map (rest.take len.toNat ++ ·)

/-- The bits of a byte, bit 0 first. -/
def byteBits (b : Byte) : List Bool := codeBits b.toNat 8

/-- The index string of a code: a root code, an entry of the table, or the entry about to be made
from the last string. -/
def codeString (m : Nat) (table : List (List Nat)) (last : List Nat) (code : Nat) :
    Option (List Nat) :=
  if code < 2 ^ m then some [code]
  else if code < firstCode m then none
  else if code = firstCode m + table.length then
    (if last = [] then none else some (last ++ last.take 1))
  else table[code - firstCode m]?

/-- The table after a code: the last string and the first index of the new one, while a code is
left for it (43_lzw.md R202). -/
def growTable (m : Nat) (table : List (List Nat)) (last new : List Nat) : List (List Nat) :=
  if last = [] then table
  else if firstCode m + table.length < maxMaxCode then table ++ [last ++ new.take 1]
  else table

/-- Reads codes of the widths of 30_encoding.md R98 until EOI: "resets at CLEAR and stops at EOI".
`w` and `j` are the width and the number of the next code, `last` is the string of the code before
it, empty after a CLEAR. The first argument bounds the number of codes. -/
def readCodes (m : Nat) :
    Nat → List Bool → Nat → Nat → List (List Nat) → List Nat → Option (List Nat)
  | 0, _, _, _, _, _ => none
  | fuel + 1, bits, w, j, table, last =>
    if bits.length < w then none
    else
      let code := bitsValue (bits.take w)
      let rest := bits.drop w
      if code = clearCode m then readCodes m fuel rest (m + 1) 1 [] []
      else if code = eoiCode m then some []
      else
        match codeString m table last code with
        | none => none
        | some new =>
          (readCodes m fuel rest (nextWidth m w j) (j + 1) (growTable m table last new) new).map
            (new ++ ·)

/-- The conventional decoder: it reads m, gathers the sub-blocks, and reads the codes LSB first,
the first of which must be a CLEAR (43_lzw.md R218). -/
def gifDecode : List Byte → Option (List Nat)
  | [] => none
  | mb :: rest =>
    match gatherBlocks (rest.length + 1) rest with
    | none => none
    | some d =>
      let bits := d.flatMap byteBits
      readCodes mb.toNat (bits.length + 1) bits (mb.toNat + 1) 0 [] []

end Sys2Proof.Machine
end

