-- ==== Sys2Proof/Safety.lean ====
section
/-! DEFINITION. What counts as a sound state of the block, and the words the statements are written in. -/

namespace Sys2Proof.Machine

/-- The invariant of the block: what the rules promise of every state, whatever the host does. -/
structure State.Inv (s : State) : Prop where
  /-- MAX_PIXELS and OUT_CAP lie in their ranges (00_scope.md R8, R9). -/
  capacities : (1 ≤ s.params.maxPixels ∧ s.params.maxPixels ≤ 2 ^ 22) ∧
    (1 ≤ s.params.outCap ∧ s.params.outCap ≤ 2 ^ 24)
  /-- "GEOM can never describe a zero-area frame" (10_state.md R35). -/
  geometry : s.width ≠ 0 ∧ s.height ≠ 0
  /-- "Legal values are 1..65535" (10_state.md R36). -/
  quality : s.quality ≠ 0
  /-- "Legal values are 1..8" (10_state.md R37). -/
  palBits : 1 ≤ s.palBits.toNat ∧ s.palBits.toNat ≤ 8
  /-- The memory is in its canonical form. -/
  memory : s.mem.wf
  /-- Accesses "always stay within their bounds" (20_memory.md R89): every written cell exists. -/
  bounds : s.mem.inBounds s.params
  /-- OUT_LEN is 0 unless OUT_VALID is 1, and never above OUT_CAP (10_state.md R29, R40). -/
  output : (s.outValid = false → s.outLen = 0) ∧ s.outLen.toNat ≤ s.params.outCap
  /-- ERR is 1 exactly while a code is recorded, and ERRINFO is 0 without one (R27, R33, R34). -/
  record : (s.err = true ↔ s.errCode ≠ .none) ∧ (s.err = false → s.errInfo = 0)
  /-- While a command runs, DONE is 0, CUR_OP is one of the six commands that take a BUSY period,
  and an error waiting to be recorded has a code (R25, R26, R31; 60_exceptions.md R251). -/
  running : ∀ r, s.running = some r → s.done = false ∧
    (2 ≤ s.curOp.toNat ∧ s.curOp.toNat ≤ 7) ∧ ∀ e, r.error = some e → e.code ≠ .none
  /-- MODEL: the draws of free bytes in use are past draws of the counter (log entry 10). -/
  draws : s.mem.tag < s.free ∧ s.mem.outTag < s.free

/-- The capacities and the registers a host configures: CTRL, GEOM, QUALITY, PALBITS, TRANS_RGB. -/
def sameConfig (s t : State) : Prop :=
  t.params = s.params ∧ t.doneIe = s.doneIe ∧ t.errIe = s.errIe ∧ t.transEn = s.transEn ∧
  t.width = s.width ∧ t.height = s.height ∧ t.quality = s.quality ∧ t.palBits = s.palBits ∧
  t.transRgb = s.transRgb

/-- The model's own fields that a command leaves alone: the events to come and the last answer. -/
def samePort (s t : State) : Prop := t.inputs = s.inputs ∧ t.resp = s.resp

/-- OUT_VALID and OUT_LEN. -/
def sameOutput (s t : State) : Prop := t.outValid = s.outValid ∧ t.outLen = s.outLen

/-- Memory reads as before at every address where `stored` does not hold. -/
def memSameBut (stored : Nat → Prop) (s t : State) : Prop :=
  ∀ a, ¬ stored a → t.mem.read a = s.mem.read a

/-- The bytes of PALMEM, of IDX[0..n-1] and of OUTMEM. -/
def inPalmem (a : Nat) : Prop := palBase ≤ a ∧ a < palEnd
def inIdx (n a : Nat) : Prop := idxAddr 0 ≤ a ∧ a < idxAddr n
def inOutmem (a : Nat) : Prop := outBase ≤ a

/-- The status an accepted command leaves while it runs (40_control.md R124): DONE, ERR and the
error record cleared, CUR_OP its opcode, BUSY 1 with the snapshot taken; and `error` is the error
it has raised, which its completion will record. -/
def acceptedStatus (i : Instr) (s t : State) (error : Option CmdError) : Prop :=
  t.done = false ∧ t.err = false ∧ t.errCode = .none ∧ t.errInfo = 0 ∧ t.curOp = i.op ∧
  ∃ r, t.running = some r ∧ r.snap = s.snapshot ∧ r.error = error

/-- The number of pixels of the current geometry. -/
def pixels (s : State) : Nat := s.width.toNat * s.height.toNat

/-- The minimum code size of the standalone COMPRESS command: `max(2, PALBITS)` (43_lzw.md R201). -/
def compressSize (s : State) : Nat := max 2 s.palBits.toNat

/-- IDX[0..N-1] for the current geometry. -/
def frameIndices (s : State) : List Byte := s.mem.indices (pixels s)

/-- The offsets of the register page that name a register (10_state.md R22 to R44). -/
def namedOffsets : List Nat :=
  [0x000, 0x004, 0x008, 0x00C, 0x010, 0x014, 0x020, 0x024, 0x028, 0x02C, 0x030, 0x034, 0x038,
   0x03C, 0x040, 0x080, 0x084, 0x088, 0x08C, 0x090, 0x094, 0x098, 0x09C]

/-- The offsets whose accesses answer SLVERR whatever runs: unnamed in the register page, unmapped,
or outside a window's valid part (20_memory.md R71, R74). -/
def invalidOffset (p : Config.Params) (off : Nat) : Prop :=
  (off < 0x1000 ∧ off ∉ namedOffsets) ∨
  (0x1400 ≤ off ∧ off < 0x1000000) ∨
  (0x1000000 ≤ off ∧ off < 0x2000000 ∧ p.maxPixels ≤ (off - 0x1000000) / 4) ∨
  (0x2000000 ≤ off ∧ off < 0x3000000 ∧ p.maxPixels ≤ off - 0x2000000) ∨
  (0x3000000 ≤ off ∧ p.outCap ≤ off - 0x3000000)

/-- The offsets of the four memory windows: everything above the register page. -/
def windowOffset (off : Nat) : Prop := 0x1000 ≤ off

/-- The state after a host access that changes nothing but the answer. -/
def answered (s : State) (rest : List Event) (r : Resp) (d : Word) : State :=
  { s with inputs := rest, resp := some ⟨r, d⟩ }

end Sys2Proof.Machine
end

