-- ==== Sys2Proof/Certificates/Slice0/Obligations.lean ====
section
/-! DEFINITION. The statements for the provers. Each one's docstring names the rules of spec/ it formalises. -/

open Sys2Proof Sys2Proof.Machine

/-! ## Encoding -/

/-- The decoder reads every command's word as that command (30_encoding.md R90, R91). -/
def Obligations.DecodeOfEncode : Prop :=
  ∀ i : Instr, i.wf = true → CmdWord.wf (encode i) = true ∧ decode (encode i) = .ok i ∧
    decodeTableWord 32 (encode i).toNat = some i

/-- A word is accepted only as the command whose word it is, and refused exactly when OP is 8 or
more or RSVD is not 0 (30_encoding.md R91, R92). -/
def Obligations.DecodeAcceptsOnlyCommandWords : Prop :=
  ∀ v : Word,
    (∀ i, decode v = .ok i ↔ v = encode i) ∧
    ((∃ e, decode v = .error e) ↔ 8 ≤ v.toNat % 16 ∨ v.toNat / 16 ≠ 0) ∧
    (CmdWord.wf v = true ↔ ∃ i, decode v = .ok i)

/-- The command words of the opcode map, written out, and words next to them (30_encoding.md R91,
R92). -/
def Obligations.DecodedWords : Prop :=
  decode 0x00000000 = .ok .nop ∧ decode 0x00000001 = .ok .softReset ∧
  decode 0x00000002 = .ok .train ∧ decode 0x00000003 = .ok .map ∧
  decode 0x00000004 = .ok .transFind ∧ decode 0x00000005 = .ok .compress ∧
  decode 0x00000006 = .ok .quantize ∧ decode 0x00000007 = .ok .frame ∧
  decode 0x00000008 = .error .reservedOpcode ∧ decode 0x0000000F = .error .reservedOpcode ∧
  decode 0x00000010 = .error .reservedBits ∧ decode 0x80000002 = .error .reservedBits

/-! ## Steps -/

/-- A step runs the decoded command: a write of a command's word to CMD answers OKAY and then is
that command, and so is a word put there by withFetchWord (40_control.md R121). -/
def Obligations.StepRunsTheWrittenCommand : Prop :=
  (∀ (s : State) (v : Word) (i : Instr) (rest : List Event),
    s.inputs = .write 0x00C v :: rest → decode v = .ok i →
    step s = exec i (answered s rest .okay 0)) ∧
  (∀ (s : State) (w : Nat) (i : Instr), decodeTableWord 32 w = some i →
    step (s.withFetchWord 32 w) = exec i (answered s s.inputs .okay 0))

/-- A step serves the first event and no other: accesses one at a time in order (20_memory.md R84),
the completion transition (40_control.md R131), the reset input; and with no event left a running
command completes. -/
def Obligations.StepServesTheFirstEvent : Prop :=
  ∀ (s : State) (rest : List Event),
    (∀ a, s.inputs = .read a :: rest → step s = .next (hostRead a (s.setInputs rest))) ∧
    (∀ a v, a ≠ 0x00C → s.inputs = .write a v :: rest →
      step s = .next (hostWrite a v (s.setInputs rest))) ∧
    (s.inputs = .complete :: rest → step s = .next (s.setInputs rest).complete) ∧
    (s.inputs = .reset :: rest → step s = .next (resetInput (s.setInputs rest))) ∧
    (s.inputs = [] → step s = .next s.complete)

/-- No step ends in a fault or a refusal: every host access gets a response and every command
completes (60_exceptions.md R250, R260; 93_implementation_defined.md, "Nothing is stuck"). -/
def Obligations.EveryStepAnswersNext : Prop :=
  ∀ s : State, ∃ t, step s = .next t

/-- The invariant holds after reset (70_reset_and_hazards.md R281). -/
def Obligations.ResetMeetsInvariant : Prop := State.reset.Inv

/-- Every step keeps the invariant, whatever the host does: legal capacities and configuration, a
canonical memory whose written cells all exist, OUT_LEN 0 unless OUT_VALID, a consistent error
record, and DONE 0 while a command runs. -/
def Obligations.StepKeepsInvariant : Prop :=
  ∀ s t : State, s.Inv → step s = .next t → t.Inv

/-- Every accepted command completes: while a command runs, BUSY is back at 0 after finitely many
steps (70_reset_and_hazards.md R291: "after finitely many host accesses"). The bound, at most one step
more than there are events to come, is the model's choice and no rule's: with no event left the step
completes the command (DESIGN CHOICE, log entry 4). -/
def Obligations.RunningCommandCompletes : Prop :=
  ∀ s : State, s.busy = true →
    ∃ (k : Nat) (t : State), k ≤ s.inputs.length + 1 ∧
      Host.Core.run Sys2Proof.core k s = .next t ∧ t.busy = false

/-- BUSY becomes 1 only by an accepted command, whose opcode CUR_OP then holds, and never by NOP or
SOFT_RESET, which complete at once. Only the completion, with DONE set, and the reset input end a
BUSY period: no host write does (10_state.md R25; 70_reset_and_hazards.md R290). -/
def Obligations.BusyPeriodBoundaries : Prop :=
  ∀ s t : State, step s = .next t →
    (s.busy = false → t.busy = true →
      ∃ i rest, s.inputs = .write 0x00C (encode i) :: rest ∧ i ≠ .nop ∧ i ≠ .softReset ∧
        t.curOp = i.op) ∧
    (s.busy = true → t.busy = false →
      ((s.inputs = [] ∨ ∃ rest, s.inputs = .complete :: rest) ∧ t.done = true) ∨
      ∃ rest, s.inputs = .reset :: rest)

/-- PAL_VALID is cleared only by reset and by SOFT_RESET (10_state.md R28). -/
def Obligations.PaletteValidClearedOnlyByResets : Prop :=
  ∀ s t : State, step s = .next t → s.palValid = true → t.palValid = false →
    (∃ rest, s.inputs = .reset :: rest) ∨
    (s.busy = false ∧ ∃ rest, s.inputs = .write 0x00C (encode .softReset) :: rest)

/-- USED changes only by TRAIN, MAP and the commands made of them, SOFT_RESET and reset, so never by
a host write to PALMEM (10_state.md R49). -/
def Obligations.UsedChangesOnlyByItsWriters : Prop :=
  ∀ s t : State, step s = .next t → t.used ≠ s.used →
    (∃ rest, s.inputs = .reset :: rest) ∨
    (s.busy = false ∧ ∃ i rest, s.inputs = .write 0x00C (encode i) :: rest ∧
      (i = .softReset ∨ i = .train ∨ i = .map ∨ i = .quantize ∨ i = .frame))

/-- MAX_PIXELS and OUT_CAP are constant (10_state.md R42, R43). -/
def Obligations.CapacitiesNeverChange : Prop :=
  ∀ s t : State, step s = .next t → t.params = s.params

/-- Whatever command is presented, and whether it is rejected, fails or runs: it leaves PIXMEM as it
was (10_state.md R46: "Commands only read it"), and all but SOFT_RESET leave CTRL, GEOM, QUALITY,
PALBITS and TRANS_RGB as they were (30_encoding.md R93). -/
def Obligations.CommandsKeepPixelsAndConfiguration : Prop :=
  ∀ (i : Instr) (s t : State), exec i s = .next t →
    (∀ p, p < 2 ^ 22 → t.mem.pixel p = s.mem.pixel p) ∧ samePort s t ∧
    (i ≠ .softReset → sameConfig s t)

/-! ## Presenting a command, and command errors -/

/-- The whole processing of a write of v to CMD, in the order of 40_control.md R121:
CMD_WHILE_BUSY, else BAD_OPCODE, else the command; and the write answers OKAY in every case. A
rejected word changes only ERR, ERRCODE and ERRINFO: not the running command, its snapshot, BUSY, DONE or CUR_OP
(R122). (`inputs` and `resp` are the model's own fields.) -/
def Obligations.CmdWriteProcessing : Prop :=
  ∀ (s : State) (v : Word) (rest : List Event), s.inputs = .write 0x00C v :: rest →
    (s.busy = true → step s = .next { answered s rest .okay 0 with
      err := true, errCode := .cmdWhileBusy, errInfo := v }) ∧
    (s.busy = false → (v.toNat / 16 ≠ 0 ∨ 8 ≤ v.toNat % 16) →
      step s = .next { answered s rest .okay 0 with
        err := true, errCode := .badOpcode, errInfo := v }) ∧
    (s.busy = false → v.toNat / 16 = 0 → v.toNat % 16 < 8 →
      ∃ i : Instr, i.op.toNat = v.toNat % 16 ∧ step s = exec i (answered s rest .okay 0)) ∧
    ∃ t, step s = .next t ∧ t.resp = some ⟨.okay, 0⟩

/-- A failed precondition ends the command at acceptance: the error is recorded with its
information word, DONE is 1 and BUSY 0, CUR_OP is written, and nothing else changes. BAD_GEOM comes
before NO_PALETTE (40_control.md R124 to R126; 60_exceptions.md R252, R254, R257). That it
completes in the same transition is log entry 7. -/
def Obligations.FailedPreconditionChangesOnlyStatus : Prop :=
  ∀ (i : Instr) (s : State), s.busy = false →
    ((i = .train ∨ i = .map ∨ i = .compress ∨ i = .quantize ∨ i = .frame) →
      s.params.maxPixels < pixels s →
      exec i s = .next { s with
        done := true, err := true, errCode := .badGeom, errInfo := BitVec.ofNat 32 (pixels s),
        curOp := i.op }) ∧
    ((i = .map ∧ pixels s ≤ s.params.maxPixels ∨ i = .transFind) → s.palValid = false →
      exec i s = .next { s with
        done := true, err := true, errCode := .noPalette, errInfo := 0, curOp := i.op })

/-- A host write of v to STATUS clears DONE by bit 1 and ERR with its record by bit 2, ignores every
other bit, answers OKAY, also while BUSY is 1, and the interrupt output follows at once
(40_control.md R129). -/
def Obligations.StatusWriteOneToClear : Prop :=
  ∀ (s : State) (v : Word) (rest : List Event), s.inputs = .write 0x008 v :: rest →
    ∃ t, step s = .next t ∧
      t = { s with
        done := s.done && !v.getLsbD 1, err := s.err && !v.getLsbD 2,
        errCode := if v.getLsbD 2 then .none else s.errCode,
        errInfo := if v.getLsbD 2 then 0 else s.errInfo,
        inputs := rest, resp := some ⟨.okay, 0⟩ } ∧
      t.irq = ((s.done && !v.getLsbD 1 && s.doneIe) || (s.err && !v.getLsbD 2 && s.errIe))

/-- The last error wins: when a word is rejected while a command runs and that command then fails,
its own error stays; when it succeeds, the rejection stays recorded (60_exceptions.md R253). -/
def Obligations.LastErrorWins : Prop :=
  ∀ (s : State) (r : Running) (v : Word) (rest : List Event), s.running = some r →
    s.inputs = .write 0x00C v :: .complete :: rest →
    ∃ t, Host.Core.run Sys2Proof.core 2 s = .next t ∧ t.busy = false ∧ t.done = true ∧
      t.err = true ∧
      (∀ e, r.error = some e → t.errCode = e.code ∧ t.errInfo = e.info) ∧
      (r.error = none → t.errCode = .cmdWhileBusy ∧ t.errInfo = v)

/-- The completion: BUSY <- 0, DONE <- 1, the error the command has raised recorded, the snapshot
and the hidden state gone, and nothing else changed (40_control.md R125; 60_exceptions.md R254). -/
def Obligations.CompletionSetsDone : Prop :=
  ∀ (s : State) (r : Running) (rest : List Event), s.running = some r →
    s.inputs = .complete :: rest →
    (r.error = none → step s = .next { s with running := none, done := true, inputs := rest }) ∧
    (∀ e, r.error = some e → step s = .next { s with
      running := none, done := true, err := true, errCode := e.code, errInfo := e.info,
      inputs := rest })

/-- STATUS reads its fields in their places: BUSY, DONE, ERR, IRQ and CUR_OP exactly at all times,
PAL_VALID and OUT_VALID exactly while BUSY is 0, the reserved bits 0; and IRQ is
`(DONE and DONE_IE) or (ERR and ERR_IE)` (10_state.md R24, R30, R54; 60_exceptions.md R258). -/
def Obligations.StatusReadsItsFields : Prop :=
  ∀ (s : State) (rest : List Event), s.inputs = .read 0x008 :: rest →
    ∃ t d, step s = .next t ∧ t.resp = some ⟨.okay, d⟩ ∧
      d.getLsbD 0 = s.busy ∧ d.getLsbD 1 = s.done ∧ d.getLsbD 2 = s.err ∧
      d.getLsbD 5 = ((s.done && s.doneIe) || (s.err && s.errIe)) ∧
      d.extractLsb' 8 4 = s.curOp ∧ d.extractLsb' 6 2 = 0 ∧ d.extractLsb' 12 20 = 0 ∧
      (s.busy = false → d.getLsbD 3 = s.palValid ∧ d.getLsbD 4 = s.outValid)

/-! ## NOP, SOFT_RESET and reset -/

/-- NOP clears DONE and the error record, sets CUR_OP to 0, completes at once with DONE 1, and does
nothing else; with DONE_IE it raises the interrupt (40_control.md R127). -/
def Obligations.NopCompletesAtOnce : Prop :=
  (∀ s : State, s.busy = false →
    ∃ t, exec .nop s = .next t ∧
      t = { s with done := true, err := false, errCode := .none, errInfo := 0, curOp := 0 } ∧
      (s.doneIe = true → t.irq = true)) ∧
  (∀ s : State, s.busy = true →
    exec .nop s = .next { s with err := true, errCode := .cmdWhileBusy, errInfo := 0 }) ∧
  ∃ t, exec .nop State.reset = .next t ∧ t.statusWord = 0x00000002

/-- SOFT_RESET puts every register at its reset value, BUSY and DONE 0 among them, clears PALMEM and
USED, and keeps PIXMEM, IDXMEM and OUTMEM; while BUSY is 1 it is rejected (40_control.md R128). So
it gives the same register, PALMEM and USED state as reset (70_reset_and_hazards.md R282, which the
spec derives from R128 and R280). `params` are the constants of 10_state.md R42 and R43, and `inputs`,
`resp` and `free` are the model's own: that the reset input keeps the events and the capacities,
clears the answer and takes a new draw is the model's choice (log entry 16). -/
def Obligations.SoftResetRestoresRegisters : Prop :=
  (∀ s : State, s.busy = false →
    ∃ t, exec .softReset s = .next t ∧
      t = { State.reset with
        params := s.params, mem := t.mem, inputs := s.inputs, resp := s.resp, free := s.free } ∧
      (∀ k, k < 256 → t.mem.palEntry k = ⟨0, 0, 0⟩) ∧ memSameBut inPalmem s t ∧
      resetInput s = { t with mem := (resetInput s).mem, resp := none, free := s.free + 1 } ∧
      ∀ k, k < 256 → (resetInput s).mem.palEntry k = t.mem.palEntry k) ∧
  ∀ s : State, s.busy = true →
    exec .softReset s = .next { s with err := true, errCode := .cmdWhileBusy, errInfo := 1 }

/-- The reset input stops a running command, puts every register at its reset value, clears PALMEM
and USED, and leaves every cell of PIXMEM, IDXMEM and OUTMEM at any value: a free byte of a new
draw (70_reset_and_hazards.md R280). That the events to come stay is log entry 16. -/
def Obligations.ResetInputRestoresRegisters : Prop :=
  ∀ (s : State) (rest : List Event), s.inputs = .reset :: rest →
    ∃ t, step s = .next t ∧
      t = { State.reset with
        params := s.params, mem := t.mem, inputs := rest, free := s.free + 1 } ∧
      (∀ k, k < 256 → t.mem.palEntry k = ⟨0, 0, 0⟩) ∧
      ∀ a, ¬ inPalmem a → t.mem.read a = Config.openByte s.free a

/-- What the host reads from each register after reset, with the default capacities; every entry of
PALMEM is (0, 0, 0), the interrupt output is 0, and no hidden state exists
(70_reset_and_hazards.md R281). -/
def Obligations.RegistersAfterReset : Prop :=
  (∀ k, k < 256 → State.reset.mem.palEntry k = ⟨0, 0, 0⟩) ∧
  State.reset.irq = false ∧ State.reset.running = none ∧
  ∀ p ∈ ([(0x000, 0x4C5A5701), (0x004, 0), (0x008, 0), (0x00C, 0), (0x010, 0), (0x014, 0),
      (0x020, 0x00F00140), (0x024, 0x0000000A), (0x028, 0x00000008), (0x02C, 0), (0x030, 0),
      (0x034, 0), (0x038, 0x00012C00), (0x03C, 0x00012C00), (0x040, 0x0001C3E9), (0x080, 0),
      (0x084, 0), (0x088, 0), (0x08C, 0), (0x090, 0), (0x094, 0), (0x098, 0), (0x09C, 0)] :
      List (BitVec 26 × Word)),
    hostRead p.1 State.reset = State.reset.respond .okay p.2

/-! ## TRAIN -/

/-- TRAIN takes a BUSY period in which PALMEM becomes the frozen network of the learning on
PIX[0..N-1] with Q, PAL_VALID becomes 1 and USED is cleared; every other byte of memory and every
other register stays (41_quantizer.md R140, R153, R154). -/
def Obligations.TrainFreezesTheNetwork : Prop :=
  ∀ s : State, s.busy = false → pixels s ≤ s.params.maxPixels →
    ∃ t, exec .train s = .next t ∧ acceptedStatus .train s t none ∧
      t.palValid = true ∧ t.used = 0 ∧
      (∀ k, k < 256 → ∃ u,
        (learn s.mem.pixel (BitVec.ofNat 32 (pixels s)) (s.quality.setWidth 32)).net[k]? = some u ∧
        t.mem.palEntry k = ⟨(u.r.sshiftRight 4).setWidth 8, (u.g.sshiftRight 4).setWidth 8,
          (u.b.sshiftRight 4).setWidth 8⟩) ∧
      memSameBut inPalmem s t ∧ sameConfig s t ∧ samePort s t ∧ sameOutput s t ∧
      t.transIndex = s.transIndex ∧ t.free = s.free

/-- With N of 503 or more and Q above N no sample is taken, and the palette is the grey ramp
(41_quantizer.md R144, R157). -/
def Obligations.TrainWithoutSamplesGivesTheRamp : Prop :=
  ∀ s : State, s.busy = false → pixels s ≤ s.params.maxPixels → 503 ≤ pixels s →
    pixels s < s.quality.toNat →
    ∃ t, exec .train s = .next t ∧
      ∀ k, k < 256 → t.mem.palEntry k = ⟨BitVec.ofNat 8 k, BitVec.ofNat 8 k, BitVec.ofNat 8 k⟩

/-- Every channel of the trained network stays in 0..4080, whatever the pixels, N and Q, so that
each palette channel is in 0..255 (41_quantizer.md R155, which says it of the transcribed algorithm;
that TRAIN is this algorithm is log entry 11). -/
def Obligations.TrainedChannelsStayInRange : Prop :=
  ∀ (pix : Nat → RGB) (n : I32) (q : BitVec 16), ∀ u ∈ (learn pix n (q.setWidth 32)).net,
    u.r.toNat ≤ 4080 ∧ u.g.toNat ≤ 4080 ∧ u.b.toNat ≤ 4080

/-- Training treats the channels alike: training on (b, g, r) and then swapping gives the same
palette as training on (r, g, b) (41_quantizer.md R156, which the spec derives from R144 and R149 to
R151; that TRAIN is this algorithm is log entry 11). -/
def Obligations.TrainingCommutesWithChannelSwap : Prop :=
  ∀ (pix : Nat → RGB) (n q : I32),
    (paletteOf (learn (fun i => ⟨(pix i).b, (pix i).g, (pix i).r⟩) n q)).map
      (fun c => (⟨c.b, c.g, c.r⟩ : RGB)) = paletteOf (learn pix n q)

/-- The trained palette is a function of N, Q and PIX[0..N-1] alone: two states that agree on these
get the same palette, whatever else differs (41_quantizer.md R155, property 3, and R148: "The loop
reads PIX only at positions below N"). -/
def Obligations.TrainDependsOnlyOnItsFrame : Prop :=
  ∀ s s' : State, s.busy = false → s'.busy = false →
    pixels s ≤ s.params.maxPixels → pixels s' ≤ s'.params.maxPixels →
    1 ≤ pixels s → pixels s ≤ 2 ^ 22 → pixels s' = pixels s → s'.quality = s.quality →
    (∀ i, i < pixels s → s'.mem.pixel i = s.mem.pixel i) →
    ∃ t t', exec .train s = .next t ∧ exec .train s' = .next t' ∧
      t'.palValid = t.palValid ∧ t'.used = t.used ∧
      ∀ k, k < 256 → t'.mem.palEntry k = t.mem.palEntry k

/-- The competition answers the lowest neuron of least biased distance, rewards the lowest neuron of
least distance, and moves no colour (41_quantizer.md R149). The premises hold of every network the
training reaches (R149). -/
def Obligations.ContestPicksTheLowestLeast : Prop :=
  ∀ (x : Sample) (net : List Neuron) (dist biasdist : Nat → I32),
    (∀ k u, net[k]? = some u → dist k = neuronDist x u ∧
      biasdist k = neuronDist x u - u.bias.sshiftRight 12 ∧
      (dist k).slt 0x7FFFFFFF = true ∧ (biasdist k).slt 0x7FFFFFFF = true) →
    net ≠ [] →
    ∃ kd kb, kd < net.length ∧ kb < net.length ∧ (contest x net).2 = (kb : Int) ∧
      (∀ k, k < net.length → (biasdist kb).toInt ≤ (biasdist k).toInt ∧
        (k < kb → (biasdist kb).toInt < (biasdist k).toInt)) ∧
      (∀ k, k < net.length → (dist kd).toInt ≤ (dist k).toInt ∧
        (k < kd → (dist kd).toInt < (dist k).toInt)) ∧
      ∀ k u, net[k]? = some u → ∃ u', (contest x net).1[k]? = some u' ∧
        u'.r = u.r ∧ u'.g = u.g ∧ u'.b = u.b ∧
        u'.freq = (u.freq - u.freq.sshiftRight 10) + (if k = kd then 64#32 else 0#32) ∧
        u'.bias = (u.bias + (u.freq.sshiftRight 10).shiftLeft 10) -
          (if k = kd then 65536#32 else 0#32)

/-- The neighbours' move: the neurons at a distance d of 1 to rad - 1 from the winner each move once,
with weight radpower[d], and no other neuron changes (41_quantizer.md R151). -/
def Obligations.NeighboursMoveByTheirDistance : Prop :=
  ∀ (radpower : List I32) (rad : I32) (j : Nat) (x : Sample) (net : List Neuron) (k : Nat)
    (u : Neuron),
    net.length = 256 → j < 256 → 0 ≤ rad.toInt → rad.toInt ≤ 256 → net[k]? = some u →
    (alterNeigh radpower rad j x net)[k]? = some
      (if k ≠ j ∧ (((k : Int) - j).natAbs : Int) < rad.toInt
        then moveToward (radpower.getD ((k : Int) - j).natAbs 0) 262144 x u else u)

/-! ## MAP and TRANS_FIND -/

/-- MAP takes a BUSY period in which every IDX[i], i < N, becomes the lowest palette index at the
least L1 distance from PIX[i], and USED holds exactly the assigned indices; every other byte of
memory and every other register stays (42_mapper.md R180 to R182). -/
def Obligations.MapAssignsNearestIndices : Prop :=
  ∀ s : State, s.busy = false → pixels s ≤ s.params.maxPixels → s.palValid = true →
    ∃ t, exec .map s = .next t ∧ acceptedStatus .map s t none ∧
      (∀ i, i < pixels s → ∀ k, k < 256 →
        let best := (t.mem.index i).toNat
        let d := fun e => dist1 (s.mem.pixel i) (s.mem.palEntry e)
        d best ≤ d k ∧ (k < best → d best < d k)) ∧
      (∀ k, t.used.getLsbD k = true ↔ ∃ i, i < pixels s ∧ (t.mem.index i).toNat = k) ∧
      memSameBut (inIdx (pixels s)) s t ∧ sameConfig s t ∧ samePort s t ∧ sameOutput s t ∧
      t.palValid = s.palValid ∧ t.transIndex = s.transIndex ∧ t.free = s.free

/-- After MAP the number of set USED bits is at least 1 and at most min(N, 256)
(42_mapper.md R183). -/
def Obligations.MapMarksAtMostOneEntryPerPixel : Prop :=
  ∀ s : State, s.busy = false → 1 ≤ pixels s → pixels s ≤ s.params.maxPixels →
    s.palValid = true →
    ∃ t, exec .map s = .next t ∧
      1 ≤ ((List.range 256).filter fun k => t.used.getLsbD k).length ∧
      ((List.range 256).filter fun k => t.used.getLsbD k).length ≤ min (pixels s) 256

/-- TRANS_FIND takes a BUSY period in which TRANS_INDEX becomes the lowest used entry at the least
squared distance from TRANS_RGB, or 0 when no entry is used; all of memory and every other register
stays, and N is not checked (42_mapper.md R184 to R186). -/
def Obligations.TransFindPicksNearestUsedEntry : Prop :=
  ∀ s : State, s.busy = false → s.palValid = true →
    ∃ t, exec .transFind s = .next t ∧ acceptedStatus .transFind s t none ∧
      ((∀ k, s.used.getLsbD k = false) → t.transIndex = 0) ∧
      (∀ k, s.used.getLsbD k = true →
        let best := t.transIndex.toNat
        let d := fun e => dist2 s.transRgb (s.mem.palEntry e)
        s.used.getLsbD best = true ∧ d best ≤ d k ∧ (k < best → d best < d k)) ∧
      (∀ a, t.mem.read a = s.mem.read a) ∧ sameConfig s t ∧ samePort s t ∧ sameOutput s t ∧
      t.palValid = s.palValid ∧ t.used = s.used ∧ t.free = s.free

/-- The two distances are the sums the rules give, and lie in 0..765 and 0..195075
(42_mapper.md R181, R185). -/
def Obligations.DistancesAreExact : Prop :=
  ∀ p e : RGB,
    ((dist1 p e : Int) = |(p.r.toNat : Int) - e.r.toNat| + |(p.g.toNat : Int) - e.g.toNat|
      + |(p.b.toNat : Int) - e.b.toNat|) ∧ dist1 p e ≤ 765 ∧
    ((dist2 p e : Int) = ((p.r.toNat : Int) - e.r.toNat) ^ 2 + ((p.g.toNat : Int) - e.g.toNat) ^ 2
      + ((p.b.toNat : Int) - e.b.toNat) ^ 2) ∧ dist2 p e ≤ 195075

/-! ## COMPRESS -/

/-- COMPRESS of indices below 2^m whose stream fits takes a BUSY period in which OUT[0..len-1]
becomes the stream, OUT_LEN its length and OUT_VALID 1. The other bytes of OUTMEM hold any value,
a free byte of a new draw; every other byte of memory and every other register stays
(43_lzw.md R200, R203, R215). -/
def Obligations.CompressWritesTheStream : Prop :=
  ∀ s : State, s.busy = false → pixels s ≤ s.params.maxPixels →
    (∀ p, p < pixels s → (s.mem.index p).toNat < 2 ^ compressSize s) →
    (lzwStream (compressSize s) (frameIndices s)).length ≤ s.params.outCap →
    s.params.outCap ≤ 2 ^ 24 →
    ∃ t, exec .compress s = .next t ∧ acceptedStatus .compress s t none ∧
      t.outValid = true ∧
      t.outLen.toNat = (lzwStream (compressSize s) (frameIndices s)).length ∧
      (∀ j b, (lzwStream (compressSize s) (frameIndices s))[j]? = some b → t.mem.outByte j = b) ∧
      (∀ j, (lzwStream (compressSize s) (frameIndices s)).length ≤ j →
        t.mem.outByte j = Config.openByte s.free (outAddr j)) ∧
      memSameBut inOutmem s t ∧ sameConfig s t ∧ samePort s t ∧
      t.palValid = s.palValid ∧ t.used = s.used ∧ t.transIndex = s.transIndex ∧
      t.free = s.free + 1

/-- COMPRESS of an index of 2^m or above raises INDEX_RANGE with the smallest such position: at the
completion ERR, ERRCODE 5 and that position are recorded, with OUT_VALID 0, OUT_LEN 0 and OUTMEM at
any value (43_lzw.md R203, R216; 60_exceptions.md R252, R254). That the record is written at the
completion is log entry 6. -/
def Obligations.CompressRejectsLargeIndices : Prop :=
  ∀ (s : State) (p : Nat), s.busy = false → pixels s ≤ s.params.maxPixels → p < pixels s →
    2 ^ compressSize s ≤ (s.mem.index p).toNat →
    (∀ p', p' < p → (s.mem.index p').toNat < 2 ^ compressSize s) →
    ∃ t, exec .compress s = .next t ∧
      acceptedStatus .compress s t (some ⟨.indexRange, BitVec.ofNat 32 p⟩) ∧
      t.outValid = false ∧ t.outLen = 0 ∧
      memSameBut inOutmem s t ∧ sameConfig s t ∧ samePort s t ∧
      t.palValid = s.palValid ∧ t.used = s.used ∧ t.transIndex = s.transIndex ∧
      t.complete.busy = false ∧ t.complete.done = true ∧ t.complete.err = true ∧
      t.complete.errCode = .indexRange ∧ t.complete.errInfo = BitVec.ofNat 32 p

/-- COMPRESS of a stream that does not fit in OUTMEM raises OUT_OVERFLOW with OUT_CAP: at the
completion ERR, ERRCODE 6 and OUT_CAP are recorded, with OUT_VALID 0, OUT_LEN 0 and OUTMEM at any
value (43_lzw.md R215, R216; 60_exceptions.md R252, R254). -/
def Obligations.CompressReportsOverflow : Prop :=
  ∀ s : State, s.busy = false → pixels s ≤ s.params.maxPixels →
    (∀ p, p < pixels s → (s.mem.index p).toNat < 2 ^ compressSize s) →
    s.params.outCap < (lzwStream (compressSize s) (frameIndices s)).length →
    ∃ t, exec .compress s = .next t ∧
      acceptedStatus .compress s t (some ⟨.outOverflow, BitVec.ofNat 32 s.params.outCap⟩) ∧
      t.outValid = false ∧ t.outLen = 0 ∧
      memSameBut inOutmem s t ∧ sameConfig s t ∧ samePort s t ∧
      t.palValid = s.palValid ∧ t.used = s.used ∧ t.transIndex = s.transIndex ∧
      t.complete.busy = false ∧ t.complete.done = true ∧ t.complete.err = true ∧
      t.complete.errCode = .outOverflow ∧
      t.complete.errInfo = BitVec.ofNat 32 s.params.outCap

/-- The stream the coder produces is the format a decoder sees: m, then the packed codes at the
widths of the width rule in sub-blocks of 254 bytes and a last one of 1 to 254, then the terminator
(30_encoding.md R94, R96, R97, R98). -/
def Obligations.StreamHasTheDecodersFormat : Prop :=
  ∀ (m : Nat) (idx : List Byte), 2 ≤ m → m ≤ 8 → idx ≠ [] → (∀ x ∈ idx, x.toNat < 2 ^ m) →
    lzwStream m idx = streamOf m (idx.map BitVec.toNat)

/-- Decodability: a conventional GIF LZW decoder given the stream returns exactly the indices
(43_lzw.md R218, which the spec derives from R204 to R214 and checked but did not prove). -/
def Obligations.StreamDecodesToItsIndices : Prop :=
  ∀ (m : Nat) (idx : List Byte), 2 ≤ m → m ≤ 8 → idx ≠ [] → (∀ x ∈ idx, x.toNat < 2 ^ m) →
    gifDecode (lzwStream m idx) = some (idx.map BitVec.toNat)

/-- Every emitted code fits its width, which lies in m + 1 to 12, so no code is 4096 or above
(30_encoding.md R95, R98; 43_lzw.md R205: "code < 2^n always"). -/
def Obligations.CodesFitTheirWidths : Prop :=
  ∀ (m : Nat) (idx : List Nat), 2 ≤ m → m ≤ 8 → idx ≠ [] → (∀ x ∈ idx, x < 2 ^ m) →
    ∀ c ∈ widthCodes m idx, c.1 < 2 ^ c.2 ∧ m + 1 ≤ c.2 ∧ c.2 ≤ 12

/-- The stream of an N-index input never exceeds OUT_BOUND(N) bytes (00_scope.md R9). -/
def Obligations.StreamStaysBelowItsBound : Prop :=
  ∀ (m : Nat) (idx : List Byte), 2 ≤ m → m ≤ 8 → idx ≠ [] → (∀ x ∈ idx, x.toNat < 2 ^ m) →
    (lzwStream m idx).length ≤ outBound idx.length

/-- With OUT_CAP at OUT_BOUND(MAX_PIXELS) or above, neither COMPRESS nor FRAME ends with OUT_OVERFLOW
(43_lzw.md R215, 44_compound.md R241): a FRAME within the capacity succeeds, and so does a COMPRESS
whose indices are below 2^m. -/
def Obligations.DefaultCapacityNeverOverflows : Prop :=
  ∀ s : State, s.Inv → s.busy = false → outBound s.params.maxPixels ≤ s.params.outCap →
    (∀ (i : Instr) (t : State), i = .compress ∨ i = .frame → exec i s = .next t →
      t.complete.errCode ≠ .outOverflow) ∧
    (pixels s ≤ s.params.maxPixels →
      (∃ t, exec .frame s = .next t ∧ acceptedStatus .frame s t none ∧ t.outValid = true) ∧
      ((∀ p, p < pixels s → (s.mem.index p).toNat < 2 ^ compressSize s) →
        ∃ t, exec .compress s = .next t ∧ acceptedStatus .compress s t none ∧
          t.outValid = true))

/-! ## QUANTIZE and FRAME -/

/-- QUANTIZE is TRAIN followed by MAP: once complete it leaves exactly the state that TRAIN and then
MAP issued as two commands leave, but for CUR_OP (44_compound.md R240). -/
def Obligations.QuantizeIsTrainThenMap : Prop :=
  ∀ s : State, s.busy = false → pixels s ≤ s.params.maxPixels →
    ∃ t u q, exec .train s = .next t ∧ exec .map t.complete = .next u ∧
      exec .quantize s = .next q ∧ acceptedStatus .quantize s q none ∧
      q.palValid = true ∧ q.complete = { u.complete with curOp := 6 }

/-- FRAME is TRAIN, MAP, TRANS_FIND when TRANS_EN is 1 and else TRANS_INDEX <- 0, and COMPRESS at
depth 8 whatever PALBITS holds: once complete it leaves exactly the state that the commands issued
one after the other leave, but for CUR_OP (44_compound.md R241, R243). -/
def Obligations.FrameIsItsPhases : Prop :=
  ∀ s : State, s.busy = false → pixels s ≤ s.params.maxPixels →
    ∃ t u w x f, exec .train s = .next t ∧ exec .map t.complete = .next u ∧
      (s.transEn = true → ∃ v, exec .transFind u.complete = .next v ∧ w = v.complete) ∧
      (s.transEn = false → w = { u.complete with transIndex := 0 }) ∧
      exec .compress { w with palBits := 8 } = .next x ∧ exec .frame s = .next f ∧
      f.complete = { x.complete with curOp := 7, palBits := s.palBits }

/-- FRAME takes a BUSY period with a palette at its end, and OUT_OVERFLOW is the only error it can
raise: then OUT_VALID and OUT_LEN are 0 and the palette, the indices and TRANS_INDEX of the earlier
phases stay; else OUT_VALID is 1. Only PALMEM, IDX[0..N-1] and OUTMEM change
(44_compound.md R241, R242). -/
def Obligations.FrameFailsOnlyByOverflow : Prop :=
  ∀ s : State, s.busy = false → pixels s ≤ s.params.maxPixels →
    ∃ q f e, exec .quantize s = .next q ∧ exec .frame s = .next f ∧
      acceptedStatus .frame s f e ∧ f.palValid = true ∧ f.used = q.used ∧
      (s.transEn = false → f.transIndex = 0) ∧ sameConfig s f ∧ samePort s f ∧
      (∀ a, ¬ inOutmem a → f.mem.read a = q.mem.read a) ∧
      memSameBut (fun a => inPalmem a ∨ inIdx (pixels s) a ∨ inOutmem a) s f ∧
      ((e = none ∧ f.outValid = true) ∨
       (e = some ⟨.outOverflow, BitVec.ofNat 32 s.params.outCap⟩ ∧ f.outValid = false ∧
         f.outLen = 0))

/-! ## The host's accesses -/

/-- An access with `addr[1:0] != 0` answers SLVERR with data 0 and has no effect
(20_memory.md R73). -/
def Obligations.MisalignedAccessAnswersSlverr : Prop :=
  ∀ (s : State) (a : BitVec 26) (v : Word) (rest : List Event), a.toNat % 4 ≠ 0 →
    (s.inputs = .read a :: rest → step s = .next (answered s rest .slverr 0)) ∧
    (s.inputs = .write a v :: rest → step s = .next (answered s rest .slverr 0))

/-- The other SLVERR cases: an unmapped or unnamed offset, one outside a window's valid part, any
window while BUSY is 1, and a write to OUTMEM. Each changes no state and gives data 0
(20_memory.md R74). -/
def Obligations.OtherBusErrorsAnswerSlverr : Prop :=
  ∀ (s : State) (a : BitVec 26) (v : Word) (rest : List Event),
    ((invalidOffset s.params a.toNat ∨ (s.busy = true ∧ windowOffset a.toNat)) →
      s.inputs = .read a :: rest → step s = .next (answered s rest .slverr 0)) ∧
    ((invalidOffset s.params a.toNat ∨ (s.busy = true ∧ windowOffset a.toNat) ∨
        0x3000000 ≤ a.toNat) →
      s.inputs = .write a v :: rest → step s = .next (answered s rest .slverr 0))

/-- The PIXMEM window: a write of v stores (v[23:16], v[15:8], v[7:0]) in PIX[i] and nothing else,
and a read gives {00, r, g, b} (20_memory.md R76). -/
def Obligations.PixelWindow : Prop :=
  ∀ (s : State) (i : Nat) (v : Word) (rest : List Event), s.busy = false →
    i < s.params.maxPixels → i < 2 ^ 22 →
    (s.inputs = .write (BitVec.ofNat 26 (0x1000000 + 4 * i)) v :: rest →
      ∃ t, step s = .next t ∧ t = { answered s rest .okay 0 with mem := t.mem } ∧
        t.mem.pixel i = ⟨v.extractLsb' 16 8, v.extractLsb' 8 8, v.extractLsb' 0 8⟩ ∧
        memSameBut (fun a => 0x1000000 + 4 * i ≤ a ∧ a < 0x1000000 + 4 * i + 3) s t) ∧
    (s.inputs = .read (BitVec.ofNat 26 (0x1000000 + 4 * i)) :: rest →
      step s = .next (answered s rest .okay
        ((0 : Byte) ++ (s.mem.pixel i).r ++ (s.mem.pixel i).g ++ (s.mem.pixel i).b)))

/-- The IDXMEM window: word w holds IDX[4w..4w+3], byte 0 in bits [7:0]; positions at MAX_PIXELS and
above ignore writes and read 0 (20_memory.md R77). -/
def Obligations.IndexWindow : Prop :=
  ∀ (s : State) (w : Nat) (v : Word) (rest : List Event), s.busy = false →
    4 * w < s.params.maxPixels → w < 2 ^ 22 →
    (s.inputs = .write (BitVec.ofNat 26 (0x2000000 + 4 * w)) v :: rest →
      ∃ t, step s = .next t ∧ t = { answered s rest .okay 0 with mem := t.mem } ∧
        (∀ b, b < 4 → 4 * w + b < s.params.maxPixels →
          t.mem.index (4 * w + b) = v.extractLsb' (8 * b) 8) ∧
        memSameBut (fun a => ∃ b, b < 4 ∧ 4 * w + b < s.params.maxPixels ∧
          a = 0x2000000 + (4 * w + b)) s t) ∧
    (s.inputs = .read (BitVec.ofNat 26 (0x2000000 + 4 * w)) :: rest →
      ∃ d, step s = .next (answered s rest .okay d) ∧
        ∀ b, b < 4 → d.extractLsb' (8 * b) 8 =
          if 4 * w + b < s.params.maxPixels then s.mem.index (4 * w + b) else 0)

/-- The PALMEM window: a write of v stores PAL[k] and sets PAL_VALID, and changes nothing else, USED
included; a read gives {00, r, g, b} (20_memory.md R78). -/
def Obligations.PaletteWindow : Prop :=
  ∀ (s : State) (k : Nat) (v : Word) (rest : List Event), s.busy = false → k < 256 →
    (s.inputs = .write (BitVec.ofNat 26 (0x1000 + 4 * k)) v :: rest →
      ∃ t, step s = .next t ∧
        t = { answered s rest .okay 0 with mem := t.mem, palValid := true } ∧
        t.mem.palEntry k = ⟨v.extractLsb' 16 8, v.extractLsb' 8 8, v.extractLsb' 0 8⟩ ∧
        memSameBut (fun a => 0x1000 + 4 * k ≤ a ∧ a < 0x1000 + 4 * k + 3) s t) ∧
    (s.inputs = .read (BitVec.ofNat 26 (0x1000 + 4 * k)) :: rest →
      step s = .next (answered s rest .okay
        ((0 : Byte) ++ (s.mem.palEntry k).r ++ (s.mem.palEntry k).g ++ (s.mem.palEntry k).b)))

/-- The OUTMEM window: word w reads OUT[4w..4w+3], byte 0 in bits [7:0], with 0 for positions at
OUT_CAP and above, and writes answer SLVERR (20_memory.md R80). -/
def Obligations.OutputWindow : Prop :=
  ∀ (s : State) (w : Nat) (v : Word) (rest : List Event), s.busy = false →
    4 * w < s.params.outCap → w < 2 ^ 22 →
    (s.inputs = .read (BitVec.ofNat 26 (0x3000000 + 4 * w)) :: rest →
      ∃ d, step s = .next (answered s rest .okay d) ∧
        ∀ b, b < 4 → d.extractLsb' (8 * b) 8 =
          if 4 * w + b < s.params.outCap then s.mem.outByte (4 * w + b) else 0) ∧
    (s.inputs = .write (BitVec.ofNat 26 (0x3000000 + 4 * w)) v :: rest →
      step s = .next (answered s rest .slverr 0))

/-- Writes to the configuration registers store the legal value, at any time, BUSY or not, and
change nothing else: CTRL, GEOM, QUALITY, PALBITS and TRANS_RGB (10_state.md R23, R35 to R38;
40_control.md R130). -/
def Obligations.ConfigurationWrites : Prop :=
  ∀ (s : State) (v : Word) (rest : List Event),
    (s.inputs = .write 0x004 v :: rest → step s = .next { answered s rest .okay 0 with
      doneIe := v.getLsbD 0, errIe := v.getLsbD 1, transEn := v.getLsbD 2 }) ∧
    (s.inputs = .write 0x020 v :: rest → step s = .next { answered s rest .okay 0 with
      width := if v.extractLsb' 0 16 = 0 then 320 else v.extractLsb' 0 16,
      height := if v.extractLsb' 16 16 = 0 then 240 else v.extractLsb' 16 16 }) ∧
    (s.inputs = .write 0x024 v :: rest → step s = .next { answered s rest .okay 0 with
      quality := if v.extractLsb' 0 16 = 0 then 1 else v.extractLsb' 0 16 }) ∧
    (s.inputs = .write 0x028 v :: rest → step s = .next { answered s rest .okay 0 with
      palBits := if v.extractLsb' 0 4 = 0 then 1
        else if 8 < (v.extractLsb' 0 4).toNat then 8 else v.extractLsb' 0 4 }) ∧
    (s.inputs = .write 0x02C v :: rest → step s = .next { answered s rest .okay 0 with
      transRgb := ⟨v.extractLsb' 16 8, v.extractLsb' 8 8, v.extractLsb' 0 8⟩ })

/-- The configuration, error and capability registers read their fields in their places with the
reserved bits 0, at any time; ERRCODE reads the number 60_exceptions.md R251 gives the recorded error,
PIX_COUNT is the product of the current dimensions, and CMD reads 0 (10_state.md R22, R23, R32 to R38,
R41 to R43). -/
def Obligations.RegisterReads : Prop :=
  ∀ (s : State) (rest : List Event), ∀ p ∈ ([
      (0x000, 0x4C5A5701),
      (0x004, BitVec.ofNat 32 (s.doneIe.toNat + 2 * s.errIe.toNat + 4 * s.transEn.toNat)),
      (0x00C, 0),
      (0x010, match s.errCode with
        | .none => 0
        | .cmdWhileBusy => 1
        | .badOpcode => 2
        | .badGeom => 3
        | .noPalette => 4
        | .indexRange => 5
        | .outOverflow => 6),
      (0x014, s.errInfo),
      (0x020, BitVec.ofNat 32 (s.width.toNat + 65536 * s.height.toNat)),
      (0x024, BitVec.ofNat 32 s.quality.toNat),
      (0x028, BitVec.ofNat 32 s.palBits.toNat),
      (0x02C, BitVec.ofNat 32 (65536 * s.transRgb.r.toNat + 256 * s.transRgb.g.toNat
        + s.transRgb.b.toNat)),
      (0x038, BitVec.ofNat 32 (s.width.toNat * s.height.toNat)),
      (0x03C, BitVec.ofNat 32 s.params.maxPixels),
      (0x040, BitVec.ofNat 32 s.params.outCap)] : List (BitVec 26 × Word)),
    s.inputs = .read p.1 :: rest → step s = .next (answered s rest .okay p.2)

/-- The result registers: while BUSY is 0 they read their values; while BUSY is 1 a read gives a
free word, a fresh one each time (10_state.md R39, R40, R44, R54). -/
def Obligations.ResultRegisterReads : Prop :=
  ∀ (s : State) (rest : List Event) (k : Nat), k < 8 → ∀ p ∈ ([
      (0x030, BitVec.ofNat 32 s.transIndex.toNat),
      (0x034, BitVec.ofNat 32 s.outLen.toNat),
      (BitVec.ofNat 26 (0x080 + 4 * k), s.used.extractLsb' (32 * k) 32)] :
      List (BitVec 26 × Word)),
    s.inputs = .read p.1 :: rest →
    (s.busy = false → step s = .next (answered s rest .okay p.2)) ∧
    (s.busy = true → step s = .next { answered s rest .okay (Config.freeWord s.free) with
      free := s.free + 1 })

/-- A write to a read-only register is ignored and answers OKAY (10_state.md R45). -/
def Obligations.ReadOnlyWritesAreIgnored : Prop :=
  ∀ (s : State) (v : Word) (rest : List Event), ∀ a ∈ ([0x000, 0x010, 0x014, 0x030, 0x034, 0x038,
      0x03C, 0x040, 0x080, 0x084, 0x088, 0x08C, 0x090, 0x094, 0x098, 0x09C] : List (BitVec 26)),
    s.inputs = .write a v :: rest → step s = .next (answered s rest .okay 0)

/-- No read has a side effect: it changes the answer, and where it drew a free value the model's
counter, and nothing else (20_memory.md R82). -/
def Obligations.ReadsHaveNoSideEffect : Prop :=
  ∀ (s : State) (a : BitVec 26) (rest : List Event), s.inputs = .read a :: rest →
    ∃ r f, step s = .next { s with inputs := rest, resp := some r, free := f }

/-- A second identical write to anything but CMD gives the same state as one write: for the registers
and windows other than STATUS by 20_memory.md R82, and for STATUS because its write only clears the
bits it names (40_control.md R129). -/
def Obligations.RepeatedWriteChangesNothing : Prop :=
  ∀ (s t u : State) (a : BitVec 26) (v : Word) (rest : List Event), s.mem.wf → a ≠ 0x00C →
    s.inputs = .write a v :: .write a v :: rest → step s = .next t → step t = .next u →
    u = { t with inputs := rest }

/-- A configuration write while BUSY is 1 does not affect the running command: completing and
writing give the same state in either order, and the running command's snapshot and results stay
(40_control.md R123, R130). -/
def Obligations.ConfigurationWritesMissTheRunningCommand : Prop :=
  ∀ (s : State) (v : Word) (a : BitVec 26), s.busy = true →
    a ∈ ([0x004, 0x020, 0x024, 0x028, 0x02C] : List (BitVec 26)) →
    (hostWrite a v s).complete = hostWrite a v s.complete ∧
    (hostWrite a v s).running = s.running ∧ (hostWrite a v s).mem = s.mem

/-! ## The parameters and the schedule of TRAIN -/

/-- The learning parameters and the schedule, in the rules' own expressions: the values before the
first sample (41_quantizer.md R144 to R147, on the naturals 3N, Q and N), what one pass of the loop
does to the network, the position, the count and delta and when it decays (R148, R152 and the weights
of R146), the winner's move (R150), and that the loop runs samplepixels times (R148). That TRAIN is
this algorithm is the model's choice of an option (log entry 11). -/
def Obligations.LearningFollowsItsSchedule : Prop :=
  (∀ (n : Nat) (q : BitVec 16), 1 ≤ n → n ≤ 2 ^ 22 → q ≠ 0 →
    let t := trainingStart (BitVec.ofNat 32 n) (q.setWidth 32)
    let samplefac := if 3 * n < 1509 then 1 else q.toNat
    t.samplefac.toNat = samplefac ∧
    t.alphadec.toNat = 30 + (samplefac - 1) / 3 ∧
    t.samplepixels.toNat = 3 * n / (3 * samplefac) ∧
    t.delta.toNat = 3 * n / (3 * samplefac) / 100 ∧
    t.alpha = 1024 ∧ t.radius = 2048 ∧ t.rad = 32 ∧ t.pos = 0 ∧ t.i = 0 ∧
    t.step.toNat = (if 3 * n < 1509 then 1 else if n % 499 ≠ 0 then 499
      else if n % 491 ≠ 0 then 491 else if n % 487 ≠ 0 then 487 else 503) ∧
    t.net.length = 256 ∧
    (∀ k, k < 256 → t.net[k]? = some ⟨BitVec.ofNat 32 (16 * k), BitVec.ofNat 32 (16 * k),
      BitVec.ofNat 32 (16 * k), 256, 0⟩) ∧
    t.radpower.length = 32 ∧
    ∀ k, k < 32 → t.radpower[k]? =
      some (BitVec.ofNat 32 (1024 * ((32 * 32 - k * k) * 256 / (32 * 32))))) ∧
  (∀ (pix : Nat → RGB) (n : I32) (t : Training),
    let p := pix t.pos.toNat
    let x : Sample := ⟨p.r.setWidth 32 <<< 4, p.g.setWidth 32 <<< 4, p.b.setWidth 32 <<< 4⟩
    let won := contest x t.net
    let moved := alterSingle t.alpha won.2 x won.1
    let u := learnPass pix n t
    u.net = (if t.rad = 0 then moved else alterNeigh t.radpower t.rad won.2 x moved) ∧
    u.pos = (if n.toInt ≤ (t.pos + t.step).toInt then t.pos + t.step - n else t.pos + t.step) ∧
    u.i = t.i + 1 ∧ u.delta = (if t.delta = 0 then 1 else t.delta) ∧
    u.samplefac = t.samplefac ∧ u.alphadec = t.alphadec ∧ u.samplepixels = t.samplepixels ∧
    u.step = t.step ∧
    (u.i.srem u.delta ≠ 0 → u.alpha = t.alpha ∧ u.radius = t.radius ∧ u.rad = t.rad ∧
      u.radpower = t.radpower) ∧
    (u.i.srem u.delta = 0 →
      u.alpha = t.alpha - t.alpha.sdiv t.alphadec ∧ u.radius = t.radius - t.radius.sdiv 30 ∧
      u.rad = (if (u.radius.sshiftRight 6).toInt ≤ 1 then 0 else u.radius.sshiftRight 6) ∧
      (t.radpower.length = 32 → u.rad.toInt ≤ 32 → u.radpower.length = 32 ∧
        ∀ k : Nat, k < 32 → u.radpower[k]? = some (if (k : Int) < u.rad.toInt
          then u.alpha * ((u.rad * u.rad - BitVec.ofNat 32 k * BitVec.ofNat 32 k) * 256#32).sdiv
            (u.rad * u.rad)
          else t.radpower.getD k 0)))) ∧
  (∀ (alpha : I32) (j : Nat) (x : Sample) (net : List Neuron) (k : Nat) (u : Neuron),
    net[k]? = some u →
    (alterSingle alpha j x net)[k]? = some (if k = j then
      { u with
        r := u.r - (alpha * (u.r - x.r)).sdiv 1024#32
        g := u.g - (alpha * (u.g - x.g)).sdiv 1024#32
        b := u.b - (alpha * (u.b - x.b)).sdiv 1024#32 } else u)) ∧
  ∀ (pix : Nat → RGB) (n q : I32),
    learn pix n q =
      (learnPass pix n)^[(trainingStart n q).samplepixels.toInt.toNat] (trainingStart n q)
end

