-- ==== Sys2Proof/Laws/Memory.lean ====
section
/-! SUPPORT. The laws of the byte memory: what a read gives after each operation, and that every operation keeps the canonical form and the bounds. -/

namespace Sys2Proof.Machine

/-! ## The list of cells -/

theorem findCell_filter {p : Host.Cell → Bool} {a : Nat} (l : List Host.Cell)
    (h : ∀ v, p (a, v) = true) : findCell a (l.filter p) = findCell a l := by
  induction l with
  | nil => rfl
  | cons c cs ih =>
    by_cases hp : p c = true
    · simp [hp, findCell, ih]
    · have hne : a ≠ c.1 := by
        rintro rfl
        exact hp (h c.2)
      simp [hp, findCell, ih, hne]

theorem findCell_filter_none {p : Host.Cell → Bool} {a : Nat} (l : List Host.Cell)
    (h : ∀ v, p (a, v) = false) : findCell a (l.filter p) = none := by
  induction l with
  | nil => rfl
  | cons c cs ih =>
    by_cases hp : p c = true
    · have hne : a ≠ c.1 := by
        rintro rfl
        rw [show c = (c.1, c.2) from rfl, h] at hp
        cases hp
      simp [hp, findCell, ih, hne]
    · simp [hp, ih]

theorem findCell_putCell_same (a : Nat) (v : Byte) (l : List Host.Cell) :
    findCell a (putCell a v l) = some v := by
  induction l with
  | nil => simp [putCell, findCell]
  | cons c cs ih =>
    unfold putCell
    split
    · simp [findCell]
    · split
      · simp [findCell]
      · rename_i h
        simp [findCell, h, ih]

theorem findCell_putCell_other {a b : Nat} (h : b ≠ a) (v : Byte) (l : List Host.Cell) :
    findCell b (putCell a v l) = findCell b l := by
  induction l with
  | nil => simp [putCell, findCell, h]
  | cons c cs ih =>
    unfold putCell
    split
    · simp [findCell, h]
    · split
      · rename_i hc
        subst hc
        simp [findCell, h]
      · simp [findCell, ih]

theorem mem_putCell {a : Nat} {v : Byte} {l : List Host.Cell} {c : Host.Cell}
    (h : c ∈ putCell a v l) : c = (a, v) ∨ c ∈ l := by
  induction l with
  | nil => simpa [putCell] using h
  | cons d ds ih =>
    unfold putCell at h
    split at h
    · simpa using h
    · split at h
      · rcases List.mem_cons.1 h with h | h
        · exact .inl h
        · exact .inr (List.mem_cons_of_mem _ h)
      · rcases List.mem_cons.1 h with h | h
        · exact .inr (by simp [h])
        · exact (ih h).imp_right (List.mem_cons_of_mem _)

theorem putCell_rising {a : Nat} {v : Byte} {l : List Host.Cell}
    (h : l.Pairwise (fun c d => c.1 < d.1)) :
    (putCell a v l).Pairwise (fun c d => c.1 < d.1) := by
  induction l with
  | nil => simp [putCell]
  | cons c cs ih =>
    obtain ⟨hc, hcs⟩ := List.pairwise_cons.1 h
    unfold putCell
    split
    · rename_i hlt
      refine List.pairwise_cons.2 ⟨fun d hd => ?_, h⟩
      rcases List.mem_cons.1 hd with rfl | hd
      · exact hlt
      · exact hlt.trans (hc d hd)
    · split
      · rename_i heq
        subst heq
        exact List.pairwise_cons.2 ⟨hc, hcs⟩
      · rename_i h1 h2
        refine List.pairwise_cons.2 ⟨fun d hd => ?_, ih hcs⟩
        rcases mem_putCell hd with rfl | hd
        · show c.1 < a
          omega
        · exact hc d hd

namespace Memory

/-! ## One byte -/

@[simp] theorem write_tag (m : Memory) (a : Nat) (v : Byte) : (m.write a v).tag = m.tag := rfl
@[simp] theorem write_outTag (m : Memory) (a : Nat) (v : Byte) :
    (m.write a v).outTag = m.outTag := rfl

@[simp] theorem unlisted_write (m : Memory) (a b : Nat) (v : Byte) :
    (m.write a v).unlisted b = m.unlisted b := rfl

theorem unlisted_of_resetByte {m : Memory} {a : Nat} {v : Byte} (h : resetByte a = some v) :
    m.unlisted a = v := by
  unfold unlisted
  rw [h]

/-- A read after a write to the same address gives the value written. -/
@[simp] theorem read_write_same (m : Memory) (a : Nat) (v : Byte) :
    (m.write a v).read a = v := by
  by_cases h : resetByte a = some v
  · have hf : findCell a (m.write a v).cells = none := by
      simp only [write, if_pos h]
      exact findCell_filter_none _ (by simp)
    unfold read
    rw [hf]
    exact unlisted_of_resetByte h
  · have hf : findCell a (m.write a v).cells = some v := by
      simp only [write, if_neg h]
      exact findCell_putCell_same a v _
    unfold read
    rw [hf]

/-- A write leaves every other address alone. -/
theorem read_write_other {a b : Nat} (h : b ≠ a) (m : Memory) (v : Byte) :
    (m.write a v).read b = m.read b := by
  have hf : findCell b (m.write a v).cells = findCell b m.cells := by
    by_cases hr : resetByte a = some v
    · simp only [write, if_pos hr]
      exact findCell_filter _ (by simp [h])
    · simp only [write, if_neg hr]
      exact findCell_putCell_other h v _
  unfold read
  rw [hf, unlisted_write]

theorem read_write (m : Memory) (a b : Nat) (v : Byte) :
    (m.write a v).read b = if b = a then v else m.read b := by
  split
  · next h => rw [h, read_write_same]
  · next h => exact read_write_other h m v

theorem wf_write {m : Memory} (h : m.wf) (a : Nat) (v : Byte) : (m.write a v).wf := by
  by_cases hr : resetByte a = some v
  · simp only [wf, write, if_pos hr]
    exact ⟨h.1.filter _, fun c hc => h.2 c (List.mem_filter.1 hc).1⟩
  · simp only [wf, write, if_neg hr]
    refine ⟨putCell_rising h.1, fun c hc => ?_⟩
    rcases mem_putCell hc with rfl | hc
    · exact hr
    · exact h.2 c hc

theorem inBounds_write {p : Config.Params} {m : Memory} (h : m.inBounds p) {a : Nat}
    (ha : isCell p a = true) (v : Byte) : (m.write a v).inBounds p := by
  intro c hc
  by_cases hr : resetByte a = some v
  · simp only [write, if_pos hr] at hc
    exact h c (List.mem_filter.1 hc).1
  · simp only [write, if_neg hr] at hc
    rcases mem_putCell hc with rfl | hc
    · exact ha
    · exact h c hc

/-! ## Consecutive bytes -/

@[simp] theorem writeBytes_tag (vs : List Byte) : ∀ (m : Memory) (a : Nat),
    (m.writeBytes a vs).tag = m.tag := by
  induction vs with
  | nil => intros; rfl
  | cons v vs ih => intro m a; simp [writeBytes, ih]

@[simp] theorem writeBytes_outTag (vs : List Byte) : ∀ (m : Memory) (a : Nat),
    (m.writeBytes a vs).outTag = m.outTag := by
  induction vs with
  | nil => intros; rfl
  | cons v vs ih => intro m a; simp [writeBytes, ih]

/-- What every address reads as after consecutive bytes were stored. -/
theorem read_writeBytes (vs : List Byte) : ∀ (m : Memory) (a b : Nat),
    (m.writeBytes a vs).read b =
      if a ≤ b ∧ b < a + vs.length then vs.getD (b - a) 0 else m.read b := by
  induction vs with
  | nil =>
    intro m a b
    simp only [writeBytes, List.length_nil]
    rw [if_neg (by omega)]
  | cons v vs ih =>
    intro m a b
    simp only [writeBytes, ih, read_write, List.length_cons]
    by_cases hab : b = a
    · subst hab
      rw [if_neg (by omega), if_pos rfl, if_pos (by omega)]
      simp
    · by_cases hin : a + 1 ≤ b ∧ b < a + 1 + vs.length
      · rw [if_pos hin, if_pos (by omega), show b - a = (b - (a + 1)) + 1 by omega]
        simp
      · rw [if_neg hin, if_neg hab, if_neg (by omega)]

theorem wf_writeBytes (vs : List Byte) : ∀ {m : Memory}, m.wf → ∀ a, (m.writeBytes a vs).wf := by
  induction vs with
  | nil => intro m h a; exact h
  | cons v vs ih => intro m h a; exact ih (wf_write h a v) (a + 1)

theorem inBounds_writeBytes {p : Config.Params} (vs : List Byte) : ∀ {m : Memory} {a : Nat},
    m.inBounds p → (∀ j, j < vs.length → isCell p (a + j) = true) →
    (m.writeBytes a vs).inBounds p := by
  induction vs with
  | nil => intro m a h _; exact h
  | cons v vs ih =>
    intro m a h hc
    refine ih (inBounds_write h (hc 0 (by simp)) v) fun j hj => ?_
    have := hc (j + 1) (by simpa using hj)
    rwa [show a + 1 + j = a + (j + 1) by omega]

/-! ## Colours -/

@[simp] theorem writeColour_tag (m : Memory) (a : Nat) (c : RGB) :
    (m.writeColour a c).tag = m.tag := rfl
@[simp] theorem writeColour_outTag (m : Memory) (a : Nat) (c : RGB) :
    (m.writeColour a c).outTag = m.outTag := rfl

/-- What every address reads as after a colour was stored. -/
theorem read_writeColour (m : Memory) (a b : Nat) (c : RGB) :
    (m.writeColour a c).read b =
      if b = a then c.b else if b = a + 1 then c.g else if b = a + 2 then c.r else m.read b := by
  simp only [writeColour, read_write]
  split_ifs <;> first | rfl | omega

/-- A colour reads back as it was stored. -/
@[simp] theorem readColour_writeColour_same (m : Memory) (a : Nat) (c : RGB) :
    (m.writeColour a c).readColour a = c := by
  simp [readColour, read_writeColour]

theorem readColour_writeColour_other {a b : Nat} (h : a + 4 ≤ b ∨ b + 4 ≤ a) (m : Memory)
    (c : RGB) : (m.writeColour a c).readColour b = m.readColour b := by
  simp only [readColour, read_writeColour, RGB.mk.injEq]
  refine ⟨?_, ?_, ?_⟩ <;> (repeat rw [if_neg (by omega)])

theorem wf_writeColour {m : Memory} (h : m.wf) (a : Nat) (c : RGB) : (m.writeColour a c).wf :=
  wf_write (wf_write (wf_write h _ _) _ _) _ _

theorem inBounds_writeColour {p : Config.Params} {m : Memory} (h : m.inBounds p) {a : Nat}
    (h0 : isCell p a = true) (h1 : isCell p (a + 1) = true) (h2 : isCell p (a + 2) = true)
    (c : RGB) : (m.writeColour a c).inBounds p :=
  inBounds_write (inBounds_write (inBounds_write h h0 _) h1 _) h2 _

@[simp] theorem writeColours_tag (cs : List RGB) : ∀ (m : Memory) (a : Nat),
    (m.writeColours a cs).tag = m.tag := by
  induction cs with
  | nil => intros; rfl
  | cons v vs ih => intro m a; simp [writeColours, ih]

@[simp] theorem writeColours_outTag (cs : List RGB) : ∀ (m : Memory) (a : Nat),
    (m.writeColours a cs).outTag = m.outTag := by
  induction cs with
  | nil => intros; rfl
  | cons v vs ih => intro m a; simp [writeColours, ih]

/-- Stored colours leave every address outside their words alone. -/
theorem read_writeColours_other (cs : List RGB) : ∀ (m : Memory) (a b : Nat),
    (b < a ∨ a + 4 * cs.length ≤ b) → (m.writeColours a cs).read b = m.read b := by
  induction cs with
  | nil => intros; rfl
  | cons c cs ih =>
    intro m a b h
    simp only [List.length_cons] at h
    simp only [writeColours]
    rw [ih _ _ _ (by omega), read_writeColour]
    repeat rw [if_neg (by omega)]

/-- Stored colours read back in order. -/
theorem readColour_writeColours (cs : List RGB) : ∀ (m : Memory) (a k : Nat),
    k < cs.length → (m.writeColours a cs).readColour (a + 4 * k) = cs.getD k ⟨0, 0, 0⟩ := by
  induction cs with
  | nil => intro m a k h; simp at h
  | cons c cs ih =>
    intro m a k h
    simp only [writeColours]
    cases k with
    | zero =>
      have hr : ∀ d, d < 4 → ((m.writeColour a c).writeColours (a + 4) cs).read (a + d) =
          (m.writeColour a c).read (a + d) := fun d hd =>
        read_writeColours_other cs _ _ _ (by omega)
      have h0 := hr 0 (by omega)
      have h1 := hr 1 (by omega)
      have h2 := hr 2 (by omega)
      simp only [Nat.add_zero] at h0
      simp [readColour, h0, h1, h2, read_writeColour]
    | succ k =>
      rw [show a + 4 * (k + 1) = a + 4 + 4 * k by omega, ih _ _ k (by simpa using h)]
      simp

theorem wf_writeColours (cs : List RGB) : ∀ {m : Memory}, m.wf → ∀ a,
    (m.writeColours a cs).wf := by
  induction cs with
  | nil => intro m h a; exact h
  | cons c cs ih => intro m h a; exact ih (wf_writeColour h a c) (a + 4)

theorem inBounds_writeColours {p : Config.Params} (cs : List RGB) : ∀ {m : Memory} {a : Nat},
    m.inBounds p → (∀ k, k < cs.length → ∀ d, d < 3 → isCell p (a + 4 * k + d) = true) →
    (m.writeColours a cs).inBounds p := by
  induction cs with
  | nil => intro m a h _; exact h
  | cons c cs ih =>
    intro m a h hc
    have h0 := hc 0 (by simp)
    refine ih (inBounds_writeColour h (by simpa using h0 0 (by omega))
      (by simpa using h0 1 (by omega)) (by simpa using h0 2 (by omega)) c) fun k hk d hd => ?_
    have := hc (k + 1) (by simpa using hk) d hd
    rwa [show a + 4 + 4 * k + d = a + 4 * (k + 1) + d by omega]

/-! ## Clearing PALMEM and opening OUTMEM -/

@[simp] theorem clearPalette_tag (m : Memory) : m.clearPalette.tag = m.tag := rfl
@[simp] theorem clearPalette_outTag (m : Memory) : m.clearPalette.outTag = m.outTag := rfl

theorem read_clearPalette (m : Memory) (a : Nat) :
    m.clearPalette.read a = if palBase ≤ a ∧ a < palEnd then 0 else m.read a := by
  split
  · next h =>
    have hf : findCell a m.clearPalette.cells = none := by
      unfold clearPalette
      exact findCell_filter_none _ (by simp [h])
    unfold read
    rw [hf]
    exact unlisted_of_resetByte (by simp [resetByte, h])
  · next h =>
    have hf : findCell a m.clearPalette.cells = findCell a m.cells := by
      unfold clearPalette
      refine findCell_filter _ fun v => ?_
      simp
      omega
    unfold read
    rw [hf]
    rfl

theorem wf_clearPalette {m : Memory} (h : m.wf) : m.clearPalette.wf :=
  ⟨h.1.filter _, fun c hc => h.2 c (List.mem_filter.1 hc).1⟩

theorem inBounds_clearPalette {p : Config.Params} {m : Memory} (h : m.inBounds p) :
    m.clearPalette.inBounds p := fun c hc => h c (List.mem_filter.1 hc).1

@[simp] theorem openOut_tag (m : Memory) (t : Nat) : (m.openOut t).tag = m.tag := rfl
@[simp] theorem openOut_outTag (m : Memory) (t : Nat) : (m.openOut t).outTag = t := rfl

/-- Opening OUTMEM leaves every other memory alone. -/
theorem read_openOut_below {a : Nat} (h : a < outBase) (m : Memory) (t : Nat) :
    (m.openOut t).read a = m.read a := by
  have hf : findCell a (m.openOut t).cells = findCell a m.cells := by
    unfold openOut
    exact findCell_filter _ (by simpa using h)
  unfold read unlisted
  rw [hf, openOut_tag, if_neg (by omega), if_neg (by omega)]

/-- A byte of an opened OUTMEM is the free byte of its draw. -/
theorem read_openOut {a : Nat} (h : outBase ≤ a) (m : Memory) (t : Nat) :
    (m.openOut t).read a = Config.openByte t a := by
  have hf : findCell a (m.openOut t).cells = none := by
    unfold openOut
    exact findCell_filter_none _ (by simpa using h)
  have hr : resetByte a = none := by
    unfold resetByte
    rw [if_neg]
    unfold outBase at h
    unfold palEnd
    omega
  unfold read unlisted
  rw [hf, hr, openOut_outTag, if_pos h]

theorem wf_openOut {m : Memory} (h : m.wf) (t : Nat) : (m.openOut t).wf :=
  ⟨h.1.filter _, fun c hc => h.2 c (List.mem_filter.1 hc).1⟩

theorem inBounds_openOut {p : Config.Params} {m : Memory} (h : m.inBounds p) (t : Nat) :
    (m.openOut t).inBounds p := fun c hc => h c (List.mem_filter.1 hc).1

/-! ## The memories by name -/

/-- Two memories that read alike at the bytes of an address give the same colour there. -/
theorem readColour_congr {m m' : Memory} {a : Nat}
    (h : ∀ d, d < 3 → m'.read (a + d) = m.read (a + d)) : m'.readColour a = m.readColour a := by
  have h0 := h 0 (by omega)
  simp only [Nat.add_zero] at h0
  simp [readColour, h0, h 1 (by omega), h 2 (by omega)]

@[simp] theorem palette_length (m : Memory) : m.palette.length = 256 := by simp [palette]

@[simp] theorem indices_length (m : Memory) (n : Nat) : (m.indices n).length = n := by
  simp [indices]

theorem palette_getD (m : Memory) {k : Nat} (h : k < 256) (c : RGB) :
    m.palette.getD k c = m.palEntry k := by
  simp [palette, h]

end Memory

/-! ## The cells the windows reach exist (20_memory.md R71, R89) -/

theorem isCell_pal (p : Config.Params) {k d : Nat} (hk : k < 256) (hd : d < 3) :
    isCell p (palAddr 0 + 4 * k + d) = true := by
  have h1 : palBase ≤ palAddr 0 + 4 * k + d ∧ palAddr 0 + 4 * k + d < palEnd := by
    unfold palAddr palBase palEnd
    omega
  have h2 : (palAddr 0 + 4 * k + d) % 4 ≠ 3 := by
    unfold palAddr palBase
    omega
  simp [isCell, h1, h2]

theorem isCell_pix {p : Config.Params} {i d : Nat} (hi : i < p.maxPixels) (hd : d < 3) :
    isCell p (pixAddr i + d) = true := by
  have h1 : pixBase ≤ pixAddr i + d ∧ pixAddr i + d < pixBase + 4 * p.maxPixels := by
    unfold pixAddr
    omega
  have h2 : (pixAddr i + d) % 4 ≠ 3 := by
    unfold pixAddr pixBase
    omega
  simp [isCell, h1, h2]

theorem isCell_idx {p : Config.Params} {i : Nat} (hi : i < p.maxPixels) :
    isCell p (idxAddr 0 + i) = true := by
  have h1 : idxBase ≤ idxAddr 0 + i ∧ idxAddr 0 + i < idxBase + p.maxPixels := by
    unfold idxAddr
    omega
  simp [isCell, h1]

theorem isCell_out {p : Config.Params} {j : Nat} (hj : j < p.outCap) :
    isCell p (outAddr 0 + j) = true := by
  have h1 : outBase ≤ outAddr 0 + j ∧ outAddr 0 + j < outBase + p.outCap := by
    unfold outAddr
    omega
  simp [isCell, h1]

end Sys2Proof.Machine
end

