-- ==== Sys2Proof/Laws/State.lean ====
section
/-! SUPPORT. One lemma per field of State per update of the state, so that no later proof unfolds a record update. -/

namespace Sys2Proof.Machine.State

variable (s : State)

/-! ### setMem -/

@[simp] theorem setMem_params (m : Memory) : (s.setMem m).params = s.params := rfl
@[simp] theorem setMem_doneIe (m : Memory) : (s.setMem m).doneIe = s.doneIe := rfl
@[simp] theorem setMem_errIe (m : Memory) : (s.setMem m).errIe = s.errIe := rfl
@[simp] theorem setMem_transEn (m : Memory) : (s.setMem m).transEn = s.transEn := rfl
@[simp] theorem setMem_done (m : Memory) : (s.setMem m).done = s.done := rfl
@[simp] theorem setMem_err (m : Memory) : (s.setMem m).err = s.err := rfl
@[simp] theorem setMem_palValid (m : Memory) : (s.setMem m).palValid = s.palValid := rfl
@[simp] theorem setMem_outValid (m : Memory) : (s.setMem m).outValid = s.outValid := rfl
@[simp] theorem setMem_curOp (m : Memory) : (s.setMem m).curOp = s.curOp := rfl
@[simp] theorem setMem_errCode (m : Memory) : (s.setMem m).errCode = s.errCode := rfl
@[simp] theorem setMem_errInfo (m : Memory) : (s.setMem m).errInfo = s.errInfo := rfl
@[simp] theorem setMem_width (m : Memory) : (s.setMem m).width = s.width := rfl
@[simp] theorem setMem_height (m : Memory) : (s.setMem m).height = s.height := rfl
@[simp] theorem setMem_quality (m : Memory) : (s.setMem m).quality = s.quality := rfl
@[simp] theorem setMem_palBits (m : Memory) : (s.setMem m).palBits = s.palBits := rfl
@[simp] theorem setMem_transRgb (m : Memory) : (s.setMem m).transRgb = s.transRgb := rfl
@[simp] theorem setMem_transIndex (m : Memory) : (s.setMem m).transIndex = s.transIndex := rfl
@[simp] theorem setMem_outLen (m : Memory) : (s.setMem m).outLen = s.outLen := rfl
@[simp] theorem setMem_used (m : Memory) : (s.setMem m).used = s.used := rfl
@[simp] theorem setMem_mem (m : Memory) : (s.setMem m).mem = m := rfl
@[simp] theorem setMem_running (m : Memory) : (s.setMem m).running = s.running := rfl
@[simp] theorem setMem_inputs (m : Memory) : (s.setMem m).inputs = s.inputs := rfl
@[simp] theorem setMem_resp (m : Memory) : (s.setMem m).resp = s.resp := rfl
@[simp] theorem setMem_free (m : Memory) : (s.setMem m).free = s.free := rfl

/-! ### setUsed -/

@[simp] theorem setUsed_params (u : BitVec 256) : (s.setUsed u).params = s.params := rfl
@[simp] theorem setUsed_doneIe (u : BitVec 256) : (s.setUsed u).doneIe = s.doneIe := rfl
@[simp] theorem setUsed_errIe (u : BitVec 256) : (s.setUsed u).errIe = s.errIe := rfl
@[simp] theorem setUsed_transEn (u : BitVec 256) : (s.setUsed u).transEn = s.transEn := rfl
@[simp] theorem setUsed_done (u : BitVec 256) : (s.setUsed u).done = s.done := rfl
@[simp] theorem setUsed_err (u : BitVec 256) : (s.setUsed u).err = s.err := rfl
@[simp] theorem setUsed_palValid (u : BitVec 256) : (s.setUsed u).palValid = s.palValid := rfl
@[simp] theorem setUsed_outValid (u : BitVec 256) : (s.setUsed u).outValid = s.outValid := rfl
@[simp] theorem setUsed_curOp (u : BitVec 256) : (s.setUsed u).curOp = s.curOp := rfl
@[simp] theorem setUsed_errCode (u : BitVec 256) : (s.setUsed u).errCode = s.errCode := rfl
@[simp] theorem setUsed_errInfo (u : BitVec 256) : (s.setUsed u).errInfo = s.errInfo := rfl
@[simp] theorem setUsed_width (u : BitVec 256) : (s.setUsed u).width = s.width := rfl
@[simp] theorem setUsed_height (u : BitVec 256) : (s.setUsed u).height = s.height := rfl
@[simp] theorem setUsed_quality (u : BitVec 256) : (s.setUsed u).quality = s.quality := rfl
@[simp] theorem setUsed_palBits (u : BitVec 256) : (s.setUsed u).palBits = s.palBits := rfl
@[simp] theorem setUsed_transRgb (u : BitVec 256) : (s.setUsed u).transRgb = s.transRgb := rfl
@[simp] theorem setUsed_transIndex (u : BitVec 256) : (s.setUsed u).transIndex = s.transIndex := rfl
@[simp] theorem setUsed_outLen (u : BitVec 256) : (s.setUsed u).outLen = s.outLen := rfl
@[simp] theorem setUsed_used (u : BitVec 256) : (s.setUsed u).used = u := rfl
@[simp] theorem setUsed_mem (u : BitVec 256) : (s.setUsed u).mem = s.mem := rfl
@[simp] theorem setUsed_running (u : BitVec 256) : (s.setUsed u).running = s.running := rfl
@[simp] theorem setUsed_inputs (u : BitVec 256) : (s.setUsed u).inputs = s.inputs := rfl
@[simp] theorem setUsed_resp (u : BitVec 256) : (s.setUsed u).resp = s.resp := rfl
@[simp] theorem setUsed_free (u : BitVec 256) : (s.setUsed u).free = s.free := rfl

/-! ### setPalValid -/

@[simp] theorem setPalValid_params (v : Bool) : (s.setPalValid v).params = s.params := rfl
@[simp] theorem setPalValid_doneIe (v : Bool) : (s.setPalValid v).doneIe = s.doneIe := rfl
@[simp] theorem setPalValid_errIe (v : Bool) : (s.setPalValid v).errIe = s.errIe := rfl
@[simp] theorem setPalValid_transEn (v : Bool) : (s.setPalValid v).transEn = s.transEn := rfl
@[simp] theorem setPalValid_done (v : Bool) : (s.setPalValid v).done = s.done := rfl
@[simp] theorem setPalValid_err (v : Bool) : (s.setPalValid v).err = s.err := rfl
@[simp] theorem setPalValid_palValid (v : Bool) : (s.setPalValid v).palValid = v := rfl
@[simp] theorem setPalValid_outValid (v : Bool) : (s.setPalValid v).outValid = s.outValid := rfl
@[simp] theorem setPalValid_curOp (v : Bool) : (s.setPalValid v).curOp = s.curOp := rfl
@[simp] theorem setPalValid_errCode (v : Bool) : (s.setPalValid v).errCode = s.errCode := rfl
@[simp] theorem setPalValid_errInfo (v : Bool) : (s.setPalValid v).errInfo = s.errInfo := rfl
@[simp] theorem setPalValid_width (v : Bool) : (s.setPalValid v).width = s.width := rfl
@[simp] theorem setPalValid_height (v : Bool) : (s.setPalValid v).height = s.height := rfl
@[simp] theorem setPalValid_quality (v : Bool) : (s.setPalValid v).quality = s.quality := rfl
@[simp] theorem setPalValid_palBits (v : Bool) : (s.setPalValid v).palBits = s.palBits := rfl
@[simp] theorem setPalValid_transRgb (v : Bool) : (s.setPalValid v).transRgb = s.transRgb := rfl
@[simp] theorem setPalValid_transIndex (v : Bool) : (s.setPalValid v).transIndex = s.transIndex := rfl
@[simp] theorem setPalValid_outLen (v : Bool) : (s.setPalValid v).outLen = s.outLen := rfl
@[simp] theorem setPalValid_used (v : Bool) : (s.setPalValid v).used = s.used := rfl
@[simp] theorem setPalValid_mem (v : Bool) : (s.setPalValid v).mem = s.mem := rfl
@[simp] theorem setPalValid_running (v : Bool) : (s.setPalValid v).running = s.running := rfl
@[simp] theorem setPalValid_inputs (v : Bool) : (s.setPalValid v).inputs = s.inputs := rfl
@[simp] theorem setPalValid_resp (v : Bool) : (s.setPalValid v).resp = s.resp := rfl
@[simp] theorem setPalValid_free (v : Bool) : (s.setPalValid v).free = s.free := rfl

/-! ### setTransIndex -/

@[simp] theorem setTransIndex_params (v : Byte) : (s.setTransIndex v).params = s.params := rfl
@[simp] theorem setTransIndex_doneIe (v : Byte) : (s.setTransIndex v).doneIe = s.doneIe := rfl
@[simp] theorem setTransIndex_errIe (v : Byte) : (s.setTransIndex v).errIe = s.errIe := rfl
@[simp] theorem setTransIndex_transEn (v : Byte) : (s.setTransIndex v).transEn = s.transEn := rfl
@[simp] theorem setTransIndex_done (v : Byte) : (s.setTransIndex v).done = s.done := rfl
@[simp] theorem setTransIndex_err (v : Byte) : (s.setTransIndex v).err = s.err := rfl
@[simp] theorem setTransIndex_palValid (v : Byte) : (s.setTransIndex v).palValid = s.palValid := rfl
@[simp] theorem setTransIndex_outValid (v : Byte) : (s.setTransIndex v).outValid = s.outValid := rfl
@[simp] theorem setTransIndex_curOp (v : Byte) : (s.setTransIndex v).curOp = s.curOp := rfl
@[simp] theorem setTransIndex_errCode (v : Byte) : (s.setTransIndex v).errCode = s.errCode := rfl
@[simp] theorem setTransIndex_errInfo (v : Byte) : (s.setTransIndex v).errInfo = s.errInfo := rfl
@[simp] theorem setTransIndex_width (v : Byte) : (s.setTransIndex v).width = s.width := rfl
@[simp] theorem setTransIndex_height (v : Byte) : (s.setTransIndex v).height = s.height := rfl
@[simp] theorem setTransIndex_quality (v : Byte) : (s.setTransIndex v).quality = s.quality := rfl
@[simp] theorem setTransIndex_palBits (v : Byte) : (s.setTransIndex v).palBits = s.palBits := rfl
@[simp] theorem setTransIndex_transRgb (v : Byte) : (s.setTransIndex v).transRgb = s.transRgb := rfl
@[simp] theorem setTransIndex_transIndex (v : Byte) : (s.setTransIndex v).transIndex = v := rfl
@[simp] theorem setTransIndex_outLen (v : Byte) : (s.setTransIndex v).outLen = s.outLen := rfl
@[simp] theorem setTransIndex_used (v : Byte) : (s.setTransIndex v).used = s.used := rfl
@[simp] theorem setTransIndex_mem (v : Byte) : (s.setTransIndex v).mem = s.mem := rfl
@[simp] theorem setTransIndex_running (v : Byte) : (s.setTransIndex v).running = s.running := rfl
@[simp] theorem setTransIndex_inputs (v : Byte) : (s.setTransIndex v).inputs = s.inputs := rfl
@[simp] theorem setTransIndex_resp (v : Byte) : (s.setTransIndex v).resp = s.resp := rfl
@[simp] theorem setTransIndex_free (v : Byte) : (s.setTransIndex v).free = s.free := rfl

/-! ### setOutput -/

@[simp] theorem setOutput_params (v : Bool) (l : BitVec 25) : (s.setOutput v l).params = s.params := rfl
@[simp] theorem setOutput_doneIe (v : Bool) (l : BitVec 25) : (s.setOutput v l).doneIe = s.doneIe := rfl
@[simp] theorem setOutput_errIe (v : Bool) (l : BitVec 25) : (s.setOutput v l).errIe = s.errIe := rfl
@[simp] theorem setOutput_transEn (v : Bool) (l : BitVec 25) : (s.setOutput v l).transEn = s.transEn := rfl
@[simp] theorem setOutput_done (v : Bool) (l : BitVec 25) : (s.setOutput v l).done = s.done := rfl
@[simp] theorem setOutput_err (v : Bool) (l : BitVec 25) : (s.setOutput v l).err = s.err := rfl
@[simp] theorem setOutput_palValid (v : Bool) (l : BitVec 25) : (s.setOutput v l).palValid = s.palValid := rfl
@[simp] theorem setOutput_outValid (v : Bool) (l : BitVec 25) : (s.setOutput v l).outValid = v := rfl
@[simp] theorem setOutput_curOp (v : Bool) (l : BitVec 25) : (s.setOutput v l).curOp = s.curOp := rfl
@[simp] theorem setOutput_errCode (v : Bool) (l : BitVec 25) : (s.setOutput v l).errCode = s.errCode := rfl
@[simp] theorem setOutput_errInfo (v : Bool) (l : BitVec 25) : (s.setOutput v l).errInfo = s.errInfo := rfl
@[simp] theorem setOutput_width (v : Bool) (l : BitVec 25) : (s.setOutput v l).width = s.width := rfl
@[simp] theorem setOutput_height (v : Bool) (l : BitVec 25) : (s.setOutput v l).height = s.height := rfl
@[simp] theorem setOutput_quality (v : Bool) (l : BitVec 25) : (s.setOutput v l).quality = s.quality := rfl
@[simp] theorem setOutput_palBits (v : Bool) (l : BitVec 25) : (s.setOutput v l).palBits = s.palBits := rfl
@[simp] theorem setOutput_transRgb (v : Bool) (l : BitVec 25) : (s.setOutput v l).transRgb = s.transRgb := rfl
@[simp] theorem setOutput_transIndex (v : Bool) (l : BitVec 25) : (s.setOutput v l).transIndex = s.transIndex := rfl
@[simp] theorem setOutput_outLen (v : Bool) (l : BitVec 25) : (s.setOutput v l).outLen = l := rfl
@[simp] theorem setOutput_used (v : Bool) (l : BitVec 25) : (s.setOutput v l).used = s.used := rfl
@[simp] theorem setOutput_mem (v : Bool) (l : BitVec 25) : (s.setOutput v l).mem = s.mem := rfl
@[simp] theorem setOutput_running (v : Bool) (l : BitVec 25) : (s.setOutput v l).running = s.running := rfl
@[simp] theorem setOutput_inputs (v : Bool) (l : BitVec 25) : (s.setOutput v l).inputs = s.inputs := rfl
@[simp] theorem setOutput_resp (v : Bool) (l : BitVec 25) : (s.setOutput v l).resp = s.resp := rfl
@[simp] theorem setOutput_free (v : Bool) (l : BitVec 25) : (s.setOutput v l).free = s.free := rfl

/-! ### draw -/

@[simp] theorem draw_params : (s.draw).params = s.params := rfl
@[simp] theorem draw_doneIe : (s.draw).doneIe = s.doneIe := rfl
@[simp] theorem draw_errIe : (s.draw).errIe = s.errIe := rfl
@[simp] theorem draw_transEn : (s.draw).transEn = s.transEn := rfl
@[simp] theorem draw_done : (s.draw).done = s.done := rfl
@[simp] theorem draw_err : (s.draw).err = s.err := rfl
@[simp] theorem draw_palValid : (s.draw).palValid = s.palValid := rfl
@[simp] theorem draw_outValid : (s.draw).outValid = s.outValid := rfl
@[simp] theorem draw_curOp : (s.draw).curOp = s.curOp := rfl
@[simp] theorem draw_errCode : (s.draw).errCode = s.errCode := rfl
@[simp] theorem draw_errInfo : (s.draw).errInfo = s.errInfo := rfl
@[simp] theorem draw_width : (s.draw).width = s.width := rfl
@[simp] theorem draw_height : (s.draw).height = s.height := rfl
@[simp] theorem draw_quality : (s.draw).quality = s.quality := rfl
@[simp] theorem draw_palBits : (s.draw).palBits = s.palBits := rfl
@[simp] theorem draw_transRgb : (s.draw).transRgb = s.transRgb := rfl
@[simp] theorem draw_transIndex : (s.draw).transIndex = s.transIndex := rfl
@[simp] theorem draw_outLen : (s.draw).outLen = s.outLen := rfl
@[simp] theorem draw_used : (s.draw).used = s.used := rfl
@[simp] theorem draw_mem : (s.draw).mem = s.mem := rfl
@[simp] theorem draw_running : (s.draw).running = s.running := rfl
@[simp] theorem draw_inputs : (s.draw).inputs = s.inputs := rfl
@[simp] theorem draw_resp : (s.draw).resp = s.resp := rfl
@[simp] theorem draw_free : (s.draw).free = s.free + 1 := rfl

/-! ### setInputs -/

@[simp] theorem setInputs_params (es : List Event) : (s.setInputs es).params = s.params := rfl
@[simp] theorem setInputs_doneIe (es : List Event) : (s.setInputs es).doneIe = s.doneIe := rfl
@[simp] theorem setInputs_errIe (es : List Event) : (s.setInputs es).errIe = s.errIe := rfl
@[simp] theorem setInputs_transEn (es : List Event) : (s.setInputs es).transEn = s.transEn := rfl
@[simp] theorem setInputs_done (es : List Event) : (s.setInputs es).done = s.done := rfl
@[simp] theorem setInputs_err (es : List Event) : (s.setInputs es).err = s.err := rfl
@[simp] theorem setInputs_palValid (es : List Event) : (s.setInputs es).palValid = s.palValid := rfl
@[simp] theorem setInputs_outValid (es : List Event) : (s.setInputs es).outValid = s.outValid := rfl
@[simp] theorem setInputs_curOp (es : List Event) : (s.setInputs es).curOp = s.curOp := rfl
@[simp] theorem setInputs_errCode (es : List Event) : (s.setInputs es).errCode = s.errCode := rfl
@[simp] theorem setInputs_errInfo (es : List Event) : (s.setInputs es).errInfo = s.errInfo := rfl
@[simp] theorem setInputs_width (es : List Event) : (s.setInputs es).width = s.width := rfl
@[simp] theorem setInputs_height (es : List Event) : (s.setInputs es).height = s.height := rfl
@[simp] theorem setInputs_quality (es : List Event) : (s.setInputs es).quality = s.quality := rfl
@[simp] theorem setInputs_palBits (es : List Event) : (s.setInputs es).palBits = s.palBits := rfl
@[simp] theorem setInputs_transRgb (es : List Event) : (s.setInputs es).transRgb = s.transRgb := rfl
@[simp] theorem setInputs_transIndex (es : List Event) : (s.setInputs es).transIndex = s.transIndex := rfl
@[simp] theorem setInputs_outLen (es : List Event) : (s.setInputs es).outLen = s.outLen := rfl
@[simp] theorem setInputs_used (es : List Event) : (s.setInputs es).used = s.used := rfl
@[simp] theorem setInputs_mem (es : List Event) : (s.setInputs es).mem = s.mem := rfl
@[simp] theorem setInputs_running (es : List Event) : (s.setInputs es).running = s.running := rfl
@[simp] theorem setInputs_inputs (es : List Event) : (s.setInputs es).inputs = es := rfl
@[simp] theorem setInputs_resp (es : List Event) : (s.setInputs es).resp = s.resp := rfl
@[simp] theorem setInputs_free (es : List Event) : (s.setInputs es).free = s.free := rfl

/-! ### respond -/

@[simp] theorem respond_params (r : Resp) (d : Word) : (s.respond r d).params = s.params := rfl
@[simp] theorem respond_doneIe (r : Resp) (d : Word) : (s.respond r d).doneIe = s.doneIe := rfl
@[simp] theorem respond_errIe (r : Resp) (d : Word) : (s.respond r d).errIe = s.errIe := rfl
@[simp] theorem respond_transEn (r : Resp) (d : Word) : (s.respond r d).transEn = s.transEn := rfl
@[simp] theorem respond_done (r : Resp) (d : Word) : (s.respond r d).done = s.done := rfl
@[simp] theorem respond_err (r : Resp) (d : Word) : (s.respond r d).err = s.err := rfl
@[simp] theorem respond_palValid (r : Resp) (d : Word) : (s.respond r d).palValid = s.palValid := rfl
@[simp] theorem respond_outValid (r : Resp) (d : Word) : (s.respond r d).outValid = s.outValid := rfl
@[simp] theorem respond_curOp (r : Resp) (d : Word) : (s.respond r d).curOp = s.curOp := rfl
@[simp] theorem respond_errCode (r : Resp) (d : Word) : (s.respond r d).errCode = s.errCode := rfl
@[simp] theorem respond_errInfo (r : Resp) (d : Word) : (s.respond r d).errInfo = s.errInfo := rfl
@[simp] theorem respond_width (r : Resp) (d : Word) : (s.respond r d).width = s.width := rfl
@[simp] theorem respond_height (r : Resp) (d : Word) : (s.respond r d).height = s.height := rfl
@[simp] theorem respond_quality (r : Resp) (d : Word) : (s.respond r d).quality = s.quality := rfl
@[simp] theorem respond_palBits (r : Resp) (d : Word) : (s.respond r d).palBits = s.palBits := rfl
@[simp] theorem respond_transRgb (r : Resp) (d : Word) : (s.respond r d).transRgb = s.transRgb := rfl
@[simp] theorem respond_transIndex (r : Resp) (d : Word) : (s.respond r d).transIndex = s.transIndex := rfl
@[simp] theorem respond_outLen (r : Resp) (d : Word) : (s.respond r d).outLen = s.outLen := rfl
@[simp] theorem respond_used (r : Resp) (d : Word) : (s.respond r d).used = s.used := rfl
@[simp] theorem respond_mem (r : Resp) (d : Word) : (s.respond r d).mem = s.mem := rfl
@[simp] theorem respond_running (r : Resp) (d : Word) : (s.respond r d).running = s.running := rfl
@[simp] theorem respond_inputs (r : Resp) (d : Word) : (s.respond r d).inputs = s.inputs := rfl
@[simp] theorem respond_resp (r : Resp) (d : Word) : (s.respond r d).resp = some ⟨r, d⟩ := rfl
@[simp] theorem respond_free (r : Resp) (d : Word) : (s.respond r d).free = s.free := rfl

/-! ### busError -/

@[simp] theorem busError_params : (s.busError).params = s.params := rfl
@[simp] theorem busError_doneIe : (s.busError).doneIe = s.doneIe := rfl
@[simp] theorem busError_errIe : (s.busError).errIe = s.errIe := rfl
@[simp] theorem busError_transEn : (s.busError).transEn = s.transEn := rfl
@[simp] theorem busError_done : (s.busError).done = s.done := rfl
@[simp] theorem busError_err : (s.busError).err = s.err := rfl
@[simp] theorem busError_palValid : (s.busError).palValid = s.palValid := rfl
@[simp] theorem busError_outValid : (s.busError).outValid = s.outValid := rfl
@[simp] theorem busError_curOp : (s.busError).curOp = s.curOp := rfl
@[simp] theorem busError_errCode : (s.busError).errCode = s.errCode := rfl
@[simp] theorem busError_errInfo : (s.busError).errInfo = s.errInfo := rfl
@[simp] theorem busError_width : (s.busError).width = s.width := rfl
@[simp] theorem busError_height : (s.busError).height = s.height := rfl
@[simp] theorem busError_quality : (s.busError).quality = s.quality := rfl
@[simp] theorem busError_palBits : (s.busError).palBits = s.palBits := rfl
@[simp] theorem busError_transRgb : (s.busError).transRgb = s.transRgb := rfl
@[simp] theorem busError_transIndex : (s.busError).transIndex = s.transIndex := rfl
@[simp] theorem busError_outLen : (s.busError).outLen = s.outLen := rfl
@[simp] theorem busError_used : (s.busError).used = s.used := rfl
@[simp] theorem busError_mem : (s.busError).mem = s.mem := rfl
@[simp] theorem busError_running : (s.busError).running = s.running := rfl
@[simp] theorem busError_inputs : (s.busError).inputs = s.inputs := rfl
@[simp] theorem busError_resp : (s.busError).resp = some ⟨.slverr, 0⟩ := rfl
@[simp] theorem busError_free : (s.busError).free = s.free := rfl

/-! ### setTraining -/

@[simp] theorem setTraining_params (t : Training) : (s.setTraining t).params = s.params := rfl
@[simp] theorem setTraining_doneIe (t : Training) : (s.setTraining t).doneIe = s.doneIe := rfl
@[simp] theorem setTraining_errIe (t : Training) : (s.setTraining t).errIe = s.errIe := rfl
@[simp] theorem setTraining_transEn (t : Training) : (s.setTraining t).transEn = s.transEn := rfl
@[simp] theorem setTraining_done (t : Training) : (s.setTraining t).done = s.done := rfl
@[simp] theorem setTraining_err (t : Training) : (s.setTraining t).err = s.err := rfl
@[simp] theorem setTraining_palValid (t : Training) : (s.setTraining t).palValid = s.palValid := rfl
@[simp] theorem setTraining_outValid (t : Training) : (s.setTraining t).outValid = s.outValid := rfl
@[simp] theorem setTraining_curOp (t : Training) : (s.setTraining t).curOp = s.curOp := rfl
@[simp] theorem setTraining_errCode (t : Training) : (s.setTraining t).errCode = s.errCode := rfl
@[simp] theorem setTraining_errInfo (t : Training) : (s.setTraining t).errInfo = s.errInfo := rfl
@[simp] theorem setTraining_width (t : Training) : (s.setTraining t).width = s.width := rfl
@[simp] theorem setTraining_height (t : Training) : (s.setTraining t).height = s.height := rfl
@[simp] theorem setTraining_quality (t : Training) : (s.setTraining t).quality = s.quality := rfl
@[simp] theorem setTraining_palBits (t : Training) : (s.setTraining t).palBits = s.palBits := rfl
@[simp] theorem setTraining_transRgb (t : Training) : (s.setTraining t).transRgb = s.transRgb := rfl
@[simp] theorem setTraining_transIndex (t : Training) : (s.setTraining t).transIndex = s.transIndex := rfl
@[simp] theorem setTraining_outLen (t : Training) : (s.setTraining t).outLen = s.outLen := rfl
@[simp] theorem setTraining_used (t : Training) : (s.setTraining t).used = s.used := rfl
@[simp] theorem setTraining_mem (t : Training) : (s.setTraining t).mem = s.mem := rfl
@[simp] theorem setTraining_running (t : Training) : (s.setTraining t).running = s.running.map fun r => { r with training := some t } := rfl
@[simp] theorem setTraining_inputs (t : Training) : (s.setTraining t).inputs = s.inputs := rfl
@[simp] theorem setTraining_resp (t : Training) : (s.setTraining t).resp = s.resp := rfl
@[simp] theorem setTraining_free (t : Training) : (s.setTraining t).free = s.free := rfl

/-! ### setCoder -/

@[simp] theorem setCoder_params (c : Coder) : (s.setCoder c).params = s.params := rfl
@[simp] theorem setCoder_doneIe (c : Coder) : (s.setCoder c).doneIe = s.doneIe := rfl
@[simp] theorem setCoder_errIe (c : Coder) : (s.setCoder c).errIe = s.errIe := rfl
@[simp] theorem setCoder_transEn (c : Coder) : (s.setCoder c).transEn = s.transEn := rfl
@[simp] theorem setCoder_done (c : Coder) : (s.setCoder c).done = s.done := rfl
@[simp] theorem setCoder_err (c : Coder) : (s.setCoder c).err = s.err := rfl
@[simp] theorem setCoder_palValid (c : Coder) : (s.setCoder c).palValid = s.palValid := rfl
@[simp] theorem setCoder_outValid (c : Coder) : (s.setCoder c).outValid = s.outValid := rfl
@[simp] theorem setCoder_curOp (c : Coder) : (s.setCoder c).curOp = s.curOp := rfl
@[simp] theorem setCoder_errCode (c : Coder) : (s.setCoder c).errCode = s.errCode := rfl
@[simp] theorem setCoder_errInfo (c : Coder) : (s.setCoder c).errInfo = s.errInfo := rfl
@[simp] theorem setCoder_width (c : Coder) : (s.setCoder c).width = s.width := rfl
@[simp] theorem setCoder_height (c : Coder) : (s.setCoder c).height = s.height := rfl
@[simp] theorem setCoder_quality (c : Coder) : (s.setCoder c).quality = s.quality := rfl
@[simp] theorem setCoder_palBits (c : Coder) : (s.setCoder c).palBits = s.palBits := rfl
@[simp] theorem setCoder_transRgb (c : Coder) : (s.setCoder c).transRgb = s.transRgb := rfl
@[simp] theorem setCoder_transIndex (c : Coder) : (s.setCoder c).transIndex = s.transIndex := rfl
@[simp] theorem setCoder_outLen (c : Coder) : (s.setCoder c).outLen = s.outLen := rfl
@[simp] theorem setCoder_used (c : Coder) : (s.setCoder c).used = s.used := rfl
@[simp] theorem setCoder_mem (c : Coder) : (s.setCoder c).mem = s.mem := rfl
@[simp] theorem setCoder_running (c : Coder) : (s.setCoder c).running = s.running.map fun r => { r with coder := some c } := rfl
@[simp] theorem setCoder_inputs (c : Coder) : (s.setCoder c).inputs = s.inputs := rfl
@[simp] theorem setCoder_resp (c : Coder) : (s.setCoder c).resp = s.resp := rfl
@[simp] theorem setCoder_free (c : Coder) : (s.setCoder c).free = s.free := rfl

/-! ### raiseInPhase -/

@[simp] theorem raiseInPhase_params (e : ErrCode) (w : Word) : (s.raiseInPhase e w).params = s.params := rfl
@[simp] theorem raiseInPhase_doneIe (e : ErrCode) (w : Word) : (s.raiseInPhase e w).doneIe = s.doneIe := rfl
@[simp] theorem raiseInPhase_errIe (e : ErrCode) (w : Word) : (s.raiseInPhase e w).errIe = s.errIe := rfl
@[simp] theorem raiseInPhase_transEn (e : ErrCode) (w : Word) : (s.raiseInPhase e w).transEn = s.transEn := rfl
@[simp] theorem raiseInPhase_done (e : ErrCode) (w : Word) : (s.raiseInPhase e w).done = s.done := rfl
@[simp] theorem raiseInPhase_err (e : ErrCode) (w : Word) : (s.raiseInPhase e w).err = s.err := rfl
@[simp] theorem raiseInPhase_palValid (e : ErrCode) (w : Word) : (s.raiseInPhase e w).palValid = s.palValid := rfl
@[simp] theorem raiseInPhase_outValid (e : ErrCode) (w : Word) : (s.raiseInPhase e w).outValid = s.outValid := rfl
@[simp] theorem raiseInPhase_curOp (e : ErrCode) (w : Word) : (s.raiseInPhase e w).curOp = s.curOp := rfl
@[simp] theorem raiseInPhase_errCode (e : ErrCode) (w : Word) : (s.raiseInPhase e w).errCode = s.errCode := rfl
@[simp] theorem raiseInPhase_errInfo (e : ErrCode) (w : Word) : (s.raiseInPhase e w).errInfo = s.errInfo := rfl
@[simp] theorem raiseInPhase_width (e : ErrCode) (w : Word) : (s.raiseInPhase e w).width = s.width := rfl
@[simp] theorem raiseInPhase_height (e : ErrCode) (w : Word) : (s.raiseInPhase e w).height = s.height := rfl
@[simp] theorem raiseInPhase_quality (e : ErrCode) (w : Word) : (s.raiseInPhase e w).quality = s.quality := rfl
@[simp] theorem raiseInPhase_palBits (e : ErrCode) (w : Word) : (s.raiseInPhase e w).palBits = s.palBits := rfl
@[simp] theorem raiseInPhase_transRgb (e : ErrCode) (w : Word) : (s.raiseInPhase e w).transRgb = s.transRgb := rfl
@[simp] theorem raiseInPhase_transIndex (e : ErrCode) (w : Word) : (s.raiseInPhase e w).transIndex = s.transIndex := rfl
@[simp] theorem raiseInPhase_outLen (e : ErrCode) (w : Word) : (s.raiseInPhase e w).outLen = s.outLen := rfl
@[simp] theorem raiseInPhase_used (e : ErrCode) (w : Word) : (s.raiseInPhase e w).used = s.used := rfl
@[simp] theorem raiseInPhase_mem (e : ErrCode) (w : Word) : (s.raiseInPhase e w).mem = s.mem := rfl
@[simp] theorem raiseInPhase_running (e : ErrCode) (w : Word) : (s.raiseInPhase e w).running = s.running.map fun r => { r with error := some ⟨e, w⟩ } := rfl
@[simp] theorem raiseInPhase_inputs (e : ErrCode) (w : Word) : (s.raiseInPhase e w).inputs = s.inputs := rfl
@[simp] theorem raiseInPhase_resp (e : ErrCode) (w : Word) : (s.raiseInPhase e w).resp = s.resp := rfl
@[simp] theorem raiseInPhase_free (e : ErrCode) (w : Word) : (s.raiseInPhase e w).free = s.free := rfl

/-! ### recordError -/

@[simp] theorem recordError_params (e : ErrCode) (w : Word) : (s.recordError e w).params = s.params := rfl
@[simp] theorem recordError_doneIe (e : ErrCode) (w : Word) : (s.recordError e w).doneIe = s.doneIe := rfl
@[simp] theorem recordError_errIe (e : ErrCode) (w : Word) : (s.recordError e w).errIe = s.errIe := rfl
@[simp] theorem recordError_transEn (e : ErrCode) (w : Word) : (s.recordError e w).transEn = s.transEn := rfl
@[simp] theorem recordError_done (e : ErrCode) (w : Word) : (s.recordError e w).done = s.done := rfl
@[simp] theorem recordError_err (e : ErrCode) (w : Word) : (s.recordError e w).err = true := rfl
@[simp] theorem recordError_palValid (e : ErrCode) (w : Word) : (s.recordError e w).palValid = s.palValid := rfl
@[simp] theorem recordError_outValid (e : ErrCode) (w : Word) : (s.recordError e w).outValid = s.outValid := rfl
@[simp] theorem recordError_curOp (e : ErrCode) (w : Word) : (s.recordError e w).curOp = s.curOp := rfl
@[simp] theorem recordError_errCode (e : ErrCode) (w : Word) : (s.recordError e w).errCode = e := rfl
@[simp] theorem recordError_errInfo (e : ErrCode) (w : Word) : (s.recordError e w).errInfo = w := rfl
@[simp] theorem recordError_width (e : ErrCode) (w : Word) : (s.recordError e w).width = s.width := rfl
@[simp] theorem recordError_height (e : ErrCode) (w : Word) : (s.recordError e w).height = s.height := rfl
@[simp] theorem recordError_quality (e : ErrCode) (w : Word) : (s.recordError e w).quality = s.quality := rfl
@[simp] theorem recordError_palBits (e : ErrCode) (w : Word) : (s.recordError e w).palBits = s.palBits := rfl
@[simp] theorem recordError_transRgb (e : ErrCode) (w : Word) : (s.recordError e w).transRgb = s.transRgb := rfl
@[simp] theorem recordError_transIndex (e : ErrCode) (w : Word) : (s.recordError e w).transIndex = s.transIndex := rfl
@[simp] theorem recordError_outLen (e : ErrCode) (w : Word) : (s.recordError e w).outLen = s.outLen := rfl
@[simp] theorem recordError_used (e : ErrCode) (w : Word) : (s.recordError e w).used = s.used := rfl
@[simp] theorem recordError_mem (e : ErrCode) (w : Word) : (s.recordError e w).mem = s.mem := rfl
@[simp] theorem recordError_running (e : ErrCode) (w : Word) : (s.recordError e w).running = s.running := rfl
@[simp] theorem recordError_inputs (e : ErrCode) (w : Word) : (s.recordError e w).inputs = s.inputs := rfl
@[simp] theorem recordError_resp (e : ErrCode) (w : Word) : (s.recordError e w).resp = s.resp := rfl
@[simp] theorem recordError_free (e : ErrCode) (w : Word) : (s.recordError e w).free = s.free := rfl

/-! ### finish -/

@[simp] theorem finish_params : (s.finish).params = s.params := rfl
@[simp] theorem finish_doneIe : (s.finish).doneIe = s.doneIe := rfl
@[simp] theorem finish_errIe : (s.finish).errIe = s.errIe := rfl
@[simp] theorem finish_transEn : (s.finish).transEn = s.transEn := rfl
@[simp] theorem finish_done : (s.finish).done = true := rfl
@[simp] theorem finish_err : (s.finish).err = s.err := rfl
@[simp] theorem finish_palValid : (s.finish).palValid = s.palValid := rfl
@[simp] theorem finish_outValid : (s.finish).outValid = s.outValid := rfl
@[simp] theorem finish_curOp : (s.finish).curOp = s.curOp := rfl
@[simp] theorem finish_errCode : (s.finish).errCode = s.errCode := rfl
@[simp] theorem finish_errInfo : (s.finish).errInfo = s.errInfo := rfl
@[simp] theorem finish_width : (s.finish).width = s.width := rfl
@[simp] theorem finish_height : (s.finish).height = s.height := rfl
@[simp] theorem finish_quality : (s.finish).quality = s.quality := rfl
@[simp] theorem finish_palBits : (s.finish).palBits = s.palBits := rfl
@[simp] theorem finish_transRgb : (s.finish).transRgb = s.transRgb := rfl
@[simp] theorem finish_transIndex : (s.finish).transIndex = s.transIndex := rfl
@[simp] theorem finish_outLen : (s.finish).outLen = s.outLen := rfl
@[simp] theorem finish_used : (s.finish).used = s.used := rfl
@[simp] theorem finish_mem : (s.finish).mem = s.mem := rfl
@[simp] theorem finish_running : (s.finish).running = none := rfl
@[simp] theorem finish_inputs : (s.finish).inputs = s.inputs := rfl
@[simp] theorem finish_resp : (s.finish).resp = s.resp := rfl
@[simp] theorem finish_free : (s.finish).free = s.free := rfl

/-! ### ackDone -/

@[simp] theorem ackDone_params : (s.ackDone).params = s.params := rfl
@[simp] theorem ackDone_doneIe : (s.ackDone).doneIe = s.doneIe := rfl
@[simp] theorem ackDone_errIe : (s.ackDone).errIe = s.errIe := rfl
@[simp] theorem ackDone_transEn : (s.ackDone).transEn = s.transEn := rfl
@[simp] theorem ackDone_done : (s.ackDone).done = false := rfl
@[simp] theorem ackDone_err : (s.ackDone).err = s.err := rfl
@[simp] theorem ackDone_palValid : (s.ackDone).palValid = s.palValid := rfl
@[simp] theorem ackDone_outValid : (s.ackDone).outValid = s.outValid := rfl
@[simp] theorem ackDone_curOp : (s.ackDone).curOp = s.curOp := rfl
@[simp] theorem ackDone_errCode : (s.ackDone).errCode = s.errCode := rfl
@[simp] theorem ackDone_errInfo : (s.ackDone).errInfo = s.errInfo := rfl
@[simp] theorem ackDone_width : (s.ackDone).width = s.width := rfl
@[simp] theorem ackDone_height : (s.ackDone).height = s.height := rfl
@[simp] theorem ackDone_quality : (s.ackDone).quality = s.quality := rfl
@[simp] theorem ackDone_palBits : (s.ackDone).palBits = s.palBits := rfl
@[simp] theorem ackDone_transRgb : (s.ackDone).transRgb = s.transRgb := rfl
@[simp] theorem ackDone_transIndex : (s.ackDone).transIndex = s.transIndex := rfl
@[simp] theorem ackDone_outLen : (s.ackDone).outLen = s.outLen := rfl
@[simp] theorem ackDone_used : (s.ackDone).used = s.used := rfl
@[simp] theorem ackDone_mem : (s.ackDone).mem = s.mem := rfl
@[simp] theorem ackDone_running : (s.ackDone).running = s.running := rfl
@[simp] theorem ackDone_inputs : (s.ackDone).inputs = s.inputs := rfl
@[simp] theorem ackDone_resp : (s.ackDone).resp = s.resp := rfl
@[simp] theorem ackDone_free : (s.ackDone).free = s.free := rfl

/-! ### ackErr -/

@[simp] theorem ackErr_params : (s.ackErr).params = s.params := rfl
@[simp] theorem ackErr_doneIe : (s.ackErr).doneIe = s.doneIe := rfl
@[simp] theorem ackErr_errIe : (s.ackErr).errIe = s.errIe := rfl
@[simp] theorem ackErr_transEn : (s.ackErr).transEn = s.transEn := rfl
@[simp] theorem ackErr_done : (s.ackErr).done = s.done := rfl
@[simp] theorem ackErr_err : (s.ackErr).err = false := rfl
@[simp] theorem ackErr_palValid : (s.ackErr).palValid = s.palValid := rfl
@[simp] theorem ackErr_outValid : (s.ackErr).outValid = s.outValid := rfl
@[simp] theorem ackErr_curOp : (s.ackErr).curOp = s.curOp := rfl
@[simp] theorem ackErr_errCode : (s.ackErr).errCode = .none := rfl
@[simp] theorem ackErr_errInfo : (s.ackErr).errInfo = 0 := rfl
@[simp] theorem ackErr_width : (s.ackErr).width = s.width := rfl
@[simp] theorem ackErr_height : (s.ackErr).height = s.height := rfl
@[simp] theorem ackErr_quality : (s.ackErr).quality = s.quality := rfl
@[simp] theorem ackErr_palBits : (s.ackErr).palBits = s.palBits := rfl
@[simp] theorem ackErr_transRgb : (s.ackErr).transRgb = s.transRgb := rfl
@[simp] theorem ackErr_transIndex : (s.ackErr).transIndex = s.transIndex := rfl
@[simp] theorem ackErr_outLen : (s.ackErr).outLen = s.outLen := rfl
@[simp] theorem ackErr_used : (s.ackErr).used = s.used := rfl
@[simp] theorem ackErr_mem : (s.ackErr).mem = s.mem := rfl
@[simp] theorem ackErr_running : (s.ackErr).running = s.running := rfl
@[simp] theorem ackErr_inputs : (s.ackErr).inputs = s.inputs := rfl
@[simp] theorem ackErr_resp : (s.ackErr).resp = s.resp := rfl
@[simp] theorem ackErr_free : (s.ackErr).free = s.free := rfl

/-! ### accept -/

@[simp] theorem accept_params (i : Instr) : (s.accept i).params = s.params := rfl
@[simp] theorem accept_doneIe (i : Instr) : (s.accept i).doneIe = s.doneIe := rfl
@[simp] theorem accept_errIe (i : Instr) : (s.accept i).errIe = s.errIe := rfl
@[simp] theorem accept_transEn (i : Instr) : (s.accept i).transEn = s.transEn := rfl
@[simp] theorem accept_done (i : Instr) : (s.accept i).done = false := rfl
@[simp] theorem accept_err (i : Instr) : (s.accept i).err = false := rfl
@[simp] theorem accept_palValid (i : Instr) : (s.accept i).palValid = s.palValid := rfl
@[simp] theorem accept_outValid (i : Instr) : (s.accept i).outValid = s.outValid := rfl
@[simp] theorem accept_curOp (i : Instr) : (s.accept i).curOp = i.op := rfl
@[simp] theorem accept_errCode (i : Instr) : (s.accept i).errCode = .none := rfl
@[simp] theorem accept_errInfo (i : Instr) : (s.accept i).errInfo = 0 := rfl
@[simp] theorem accept_width (i : Instr) : (s.accept i).width = s.width := rfl
@[simp] theorem accept_height (i : Instr) : (s.accept i).height = s.height := rfl
@[simp] theorem accept_quality (i : Instr) : (s.accept i).quality = s.quality := rfl
@[simp] theorem accept_palBits (i : Instr) : (s.accept i).palBits = s.palBits := rfl
@[simp] theorem accept_transRgb (i : Instr) : (s.accept i).transRgb = s.transRgb := rfl
@[simp] theorem accept_transIndex (i : Instr) : (s.accept i).transIndex = s.transIndex := rfl
@[simp] theorem accept_outLen (i : Instr) : (s.accept i).outLen = s.outLen := rfl
@[simp] theorem accept_used (i : Instr) : (s.accept i).used = s.used := rfl
@[simp] theorem accept_mem (i : Instr) : (s.accept i).mem = s.mem := rfl
@[simp] theorem accept_running (i : Instr) : (s.accept i).running = some ⟨s.snapshot, none, none, none⟩ := rfl
@[simp] theorem accept_inputs (i : Instr) : (s.accept i).inputs = s.inputs := rfl
@[simp] theorem accept_resp (i : Instr) : (s.accept i).resp = s.resp := rfl
@[simp] theorem accept_free (i : Instr) : (s.accept i).free = s.free := rfl

/-! ### writeCtrl -/

@[simp] theorem writeCtrl_params (v : Word) : (s.writeCtrl v).params = s.params := rfl
@[simp] theorem writeCtrl_doneIe (v : Word) : (s.writeCtrl v).doneIe = v.getLsbD 0 := rfl
@[simp] theorem writeCtrl_errIe (v : Word) : (s.writeCtrl v).errIe = v.getLsbD 1 := rfl
@[simp] theorem writeCtrl_transEn (v : Word) : (s.writeCtrl v).transEn = v.getLsbD 2 := rfl
@[simp] theorem writeCtrl_done (v : Word) : (s.writeCtrl v).done = s.done := rfl
@[simp] theorem writeCtrl_err (v : Word) : (s.writeCtrl v).err = s.err := rfl
@[simp] theorem writeCtrl_palValid (v : Word) : (s.writeCtrl v).palValid = s.palValid := rfl
@[simp] theorem writeCtrl_outValid (v : Word) : (s.writeCtrl v).outValid = s.outValid := rfl
@[simp] theorem writeCtrl_curOp (v : Word) : (s.writeCtrl v).curOp = s.curOp := rfl
@[simp] theorem writeCtrl_errCode (v : Word) : (s.writeCtrl v).errCode = s.errCode := rfl
@[simp] theorem writeCtrl_errInfo (v : Word) : (s.writeCtrl v).errInfo = s.errInfo := rfl
@[simp] theorem writeCtrl_width (v : Word) : (s.writeCtrl v).width = s.width := rfl
@[simp] theorem writeCtrl_height (v : Word) : (s.writeCtrl v).height = s.height := rfl
@[simp] theorem writeCtrl_quality (v : Word) : (s.writeCtrl v).quality = s.quality := rfl
@[simp] theorem writeCtrl_palBits (v : Word) : (s.writeCtrl v).palBits = s.palBits := rfl
@[simp] theorem writeCtrl_transRgb (v : Word) : (s.writeCtrl v).transRgb = s.transRgb := rfl
@[simp] theorem writeCtrl_transIndex (v : Word) : (s.writeCtrl v).transIndex = s.transIndex := rfl
@[simp] theorem writeCtrl_outLen (v : Word) : (s.writeCtrl v).outLen = s.outLen := rfl
@[simp] theorem writeCtrl_used (v : Word) : (s.writeCtrl v).used = s.used := rfl
@[simp] theorem writeCtrl_mem (v : Word) : (s.writeCtrl v).mem = s.mem := rfl
@[simp] theorem writeCtrl_running (v : Word) : (s.writeCtrl v).running = s.running := rfl
@[simp] theorem writeCtrl_inputs (v : Word) : (s.writeCtrl v).inputs = s.inputs := rfl
@[simp] theorem writeCtrl_resp (v : Word) : (s.writeCtrl v).resp = s.resp := rfl
@[simp] theorem writeCtrl_free (v : Word) : (s.writeCtrl v).free = s.free := rfl

/-! ### writeGeom -/

@[simp] theorem writeGeom_params (v : Word) : (s.writeGeom v).params = s.params := rfl
@[simp] theorem writeGeom_doneIe (v : Word) : (s.writeGeom v).doneIe = s.doneIe := rfl
@[simp] theorem writeGeom_errIe (v : Word) : (s.writeGeom v).errIe = s.errIe := rfl
@[simp] theorem writeGeom_transEn (v : Word) : (s.writeGeom v).transEn = s.transEn := rfl
@[simp] theorem writeGeom_done (v : Word) : (s.writeGeom v).done = s.done := rfl
@[simp] theorem writeGeom_err (v : Word) : (s.writeGeom v).err = s.err := rfl
@[simp] theorem writeGeom_palValid (v : Word) : (s.writeGeom v).palValid = s.palValid := rfl
@[simp] theorem writeGeom_outValid (v : Word) : (s.writeGeom v).outValid = s.outValid := rfl
@[simp] theorem writeGeom_curOp (v : Word) : (s.writeGeom v).curOp = s.curOp := rfl
@[simp] theorem writeGeom_errCode (v : Word) : (s.writeGeom v).errCode = s.errCode := rfl
@[simp] theorem writeGeom_errInfo (v : Word) : (s.writeGeom v).errInfo = s.errInfo := rfl
@[simp] theorem writeGeom_width (v : Word) : (s.writeGeom v).width = legalWidth v := rfl
@[simp] theorem writeGeom_height (v : Word) : (s.writeGeom v).height = legalHeight v := rfl
@[simp] theorem writeGeom_quality (v : Word) : (s.writeGeom v).quality = s.quality := rfl
@[simp] theorem writeGeom_palBits (v : Word) : (s.writeGeom v).palBits = s.palBits := rfl
@[simp] theorem writeGeom_transRgb (v : Word) : (s.writeGeom v).transRgb = s.transRgb := rfl
@[simp] theorem writeGeom_transIndex (v : Word) : (s.writeGeom v).transIndex = s.transIndex := rfl
@[simp] theorem writeGeom_outLen (v : Word) : (s.writeGeom v).outLen = s.outLen := rfl
@[simp] theorem writeGeom_used (v : Word) : (s.writeGeom v).used = s.used := rfl
@[simp] theorem writeGeom_mem (v : Word) : (s.writeGeom v).mem = s.mem := rfl
@[simp] theorem writeGeom_running (v : Word) : (s.writeGeom v).running = s.running := rfl
@[simp] theorem writeGeom_inputs (v : Word) : (s.writeGeom v).inputs = s.inputs := rfl
@[simp] theorem writeGeom_resp (v : Word) : (s.writeGeom v).resp = s.resp := rfl
@[simp] theorem writeGeom_free (v : Word) : (s.writeGeom v).free = s.free := rfl

/-! ### writeQuality -/

@[simp] theorem writeQuality_params (v : Word) : (s.writeQuality v).params = s.params := rfl
@[simp] theorem writeQuality_doneIe (v : Word) : (s.writeQuality v).doneIe = s.doneIe := rfl
@[simp] theorem writeQuality_errIe (v : Word) : (s.writeQuality v).errIe = s.errIe := rfl
@[simp] theorem writeQuality_transEn (v : Word) : (s.writeQuality v).transEn = s.transEn := rfl
@[simp] theorem writeQuality_done (v : Word) : (s.writeQuality v).done = s.done := rfl
@[simp] theorem writeQuality_err (v : Word) : (s.writeQuality v).err = s.err := rfl
@[simp] theorem writeQuality_palValid (v : Word) : (s.writeQuality v).palValid = s.palValid := rfl
@[simp] theorem writeQuality_outValid (v : Word) : (s.writeQuality v).outValid = s.outValid := rfl
@[simp] theorem writeQuality_curOp (v : Word) : (s.writeQuality v).curOp = s.curOp := rfl
@[simp] theorem writeQuality_errCode (v : Word) : (s.writeQuality v).errCode = s.errCode := rfl
@[simp] theorem writeQuality_errInfo (v : Word) : (s.writeQuality v).errInfo = s.errInfo := rfl
@[simp] theorem writeQuality_width (v : Word) : (s.writeQuality v).width = s.width := rfl
@[simp] theorem writeQuality_height (v : Word) : (s.writeQuality v).height = s.height := rfl
@[simp] theorem writeQuality_quality (v : Word) : (s.writeQuality v).quality = legalQuality v := rfl
@[simp] theorem writeQuality_palBits (v : Word) : (s.writeQuality v).palBits = s.palBits := rfl
@[simp] theorem writeQuality_transRgb (v : Word) : (s.writeQuality v).transRgb = s.transRgb := rfl
@[simp] theorem writeQuality_transIndex (v : Word) : (s.writeQuality v).transIndex = s.transIndex := rfl
@[simp] theorem writeQuality_outLen (v : Word) : (s.writeQuality v).outLen = s.outLen := rfl
@[simp] theorem writeQuality_used (v : Word) : (s.writeQuality v).used = s.used := rfl
@[simp] theorem writeQuality_mem (v : Word) : (s.writeQuality v).mem = s.mem := rfl
@[simp] theorem writeQuality_running (v : Word) : (s.writeQuality v).running = s.running := rfl
@[simp] theorem writeQuality_inputs (v : Word) : (s.writeQuality v).inputs = s.inputs := rfl
@[simp] theorem writeQuality_resp (v : Word) : (s.writeQuality v).resp = s.resp := rfl
@[simp] theorem writeQuality_free (v : Word) : (s.writeQuality v).free = s.free := rfl

/-! ### writePalBits -/

@[simp] theorem writePalBits_params (v : Word) : (s.writePalBits v).params = s.params := rfl
@[simp] theorem writePalBits_doneIe (v : Word) : (s.writePalBits v).doneIe = s.doneIe := rfl
@[simp] theorem writePalBits_errIe (v : Word) : (s.writePalBits v).errIe = s.errIe := rfl
@[simp] theorem writePalBits_transEn (v : Word) : (s.writePalBits v).transEn = s.transEn := rfl
@[simp] theorem writePalBits_done (v : Word) : (s.writePalBits v).done = s.done := rfl
@[simp] theorem writePalBits_err (v : Word) : (s.writePalBits v).err = s.err := rfl
@[simp] theorem writePalBits_palValid (v : Word) : (s.writePalBits v).palValid = s.palValid := rfl
@[simp] theorem writePalBits_outValid (v : Word) : (s.writePalBits v).outValid = s.outValid := rfl
@[simp] theorem writePalBits_curOp (v : Word) : (s.writePalBits v).curOp = s.curOp := rfl
@[simp] theorem writePalBits_errCode (v : Word) : (s.writePalBits v).errCode = s.errCode := rfl
@[simp] theorem writePalBits_errInfo (v : Word) : (s.writePalBits v).errInfo = s.errInfo := rfl
@[simp] theorem writePalBits_width (v : Word) : (s.writePalBits v).width = s.width := rfl
@[simp] theorem writePalBits_height (v : Word) : (s.writePalBits v).height = s.height := rfl
@[simp] theorem writePalBits_quality (v : Word) : (s.writePalBits v).quality = s.quality := rfl
@[simp] theorem writePalBits_palBits (v : Word) : (s.writePalBits v).palBits = legalPalBits v := rfl
@[simp] theorem writePalBits_transRgb (v : Word) : (s.writePalBits v).transRgb = s.transRgb := rfl
@[simp] theorem writePalBits_transIndex (v : Word) : (s.writePalBits v).transIndex = s.transIndex := rfl
@[simp] theorem writePalBits_outLen (v : Word) : (s.writePalBits v).outLen = s.outLen := rfl
@[simp] theorem writePalBits_used (v : Word) : (s.writePalBits v).used = s.used := rfl
@[simp] theorem writePalBits_mem (v : Word) : (s.writePalBits v).mem = s.mem := rfl
@[simp] theorem writePalBits_running (v : Word) : (s.writePalBits v).running = s.running := rfl
@[simp] theorem writePalBits_inputs (v : Word) : (s.writePalBits v).inputs = s.inputs := rfl
@[simp] theorem writePalBits_resp (v : Word) : (s.writePalBits v).resp = s.resp := rfl
@[simp] theorem writePalBits_free (v : Word) : (s.writePalBits v).free = s.free := rfl

/-! ### writeTransRgb -/

@[simp] theorem writeTransRgb_params (v : Word) : (s.writeTransRgb v).params = s.params := rfl
@[simp] theorem writeTransRgb_doneIe (v : Word) : (s.writeTransRgb v).doneIe = s.doneIe := rfl
@[simp] theorem writeTransRgb_errIe (v : Word) : (s.writeTransRgb v).errIe = s.errIe := rfl
@[simp] theorem writeTransRgb_transEn (v : Word) : (s.writeTransRgb v).transEn = s.transEn := rfl
@[simp] theorem writeTransRgb_done (v : Word) : (s.writeTransRgb v).done = s.done := rfl
@[simp] theorem writeTransRgb_err (v : Word) : (s.writeTransRgb v).err = s.err := rfl
@[simp] theorem writeTransRgb_palValid (v : Word) : (s.writeTransRgb v).palValid = s.palValid := rfl
@[simp] theorem writeTransRgb_outValid (v : Word) : (s.writeTransRgb v).outValid = s.outValid := rfl
@[simp] theorem writeTransRgb_curOp (v : Word) : (s.writeTransRgb v).curOp = s.curOp := rfl
@[simp] theorem writeTransRgb_errCode (v : Word) : (s.writeTransRgb v).errCode = s.errCode := rfl
@[simp] theorem writeTransRgb_errInfo (v : Word) : (s.writeTransRgb v).errInfo = s.errInfo := rfl
@[simp] theorem writeTransRgb_width (v : Word) : (s.writeTransRgb v).width = s.width := rfl
@[simp] theorem writeTransRgb_height (v : Word) : (s.writeTransRgb v).height = s.height := rfl
@[simp] theorem writeTransRgb_quality (v : Word) : (s.writeTransRgb v).quality = s.quality := rfl
@[simp] theorem writeTransRgb_palBits (v : Word) : (s.writeTransRgb v).palBits = s.palBits := rfl
@[simp] theorem writeTransRgb_transRgb (v : Word) : (s.writeTransRgb v).transRgb = wordColour v := rfl
@[simp] theorem writeTransRgb_transIndex (v : Word) : (s.writeTransRgb v).transIndex = s.transIndex := rfl
@[simp] theorem writeTransRgb_outLen (v : Word) : (s.writeTransRgb v).outLen = s.outLen := rfl
@[simp] theorem writeTransRgb_used (v : Word) : (s.writeTransRgb v).used = s.used := rfl
@[simp] theorem writeTransRgb_mem (v : Word) : (s.writeTransRgb v).mem = s.mem := rfl
@[simp] theorem writeTransRgb_running (v : Word) : (s.writeTransRgb v).running = s.running := rfl
@[simp] theorem writeTransRgb_inputs (v : Word) : (s.writeTransRgb v).inputs = s.inputs := rfl
@[simp] theorem writeTransRgb_resp (v : Word) : (s.writeTransRgb v).resp = s.resp := rfl
@[simp] theorem writeTransRgb_free (v : Word) : (s.writeTransRgb v).free = s.free := rfl

/-! ### writeStatus -/

@[simp] theorem writeStatus_params (v : Word) : (s.writeStatus v).params = s.params := by
  unfold writeStatus; dsimp only; split <;> split <;> rfl
@[simp] theorem writeStatus_doneIe (v : Word) : (s.writeStatus v).doneIe = s.doneIe := by
  unfold writeStatus; dsimp only; split <;> split <;> rfl
@[simp] theorem writeStatus_errIe (v : Word) : (s.writeStatus v).errIe = s.errIe := by
  unfold writeStatus; dsimp only; split <;> split <;> rfl
@[simp] theorem writeStatus_transEn (v : Word) : (s.writeStatus v).transEn = s.transEn := by
  unfold writeStatus; dsimp only; split <;> split <;> rfl
@[simp] theorem writeStatus_palValid (v : Word) : (s.writeStatus v).palValid = s.palValid := by
  unfold writeStatus; dsimp only; split <;> split <;> rfl
@[simp] theorem writeStatus_outValid (v : Word) : (s.writeStatus v).outValid = s.outValid := by
  unfold writeStatus; dsimp only; split <;> split <;> rfl
@[simp] theorem writeStatus_curOp (v : Word) : (s.writeStatus v).curOp = s.curOp := by
  unfold writeStatus; dsimp only; split <;> split <;> rfl
@[simp] theorem writeStatus_width (v : Word) : (s.writeStatus v).width = s.width := by
  unfold writeStatus; dsimp only; split <;> split <;> rfl
@[simp] theorem writeStatus_height (v : Word) : (s.writeStatus v).height = s.height := by
  unfold writeStatus; dsimp only; split <;> split <;> rfl
@[simp] theorem writeStatus_quality (v : Word) : (s.writeStatus v).quality = s.quality := by
  unfold writeStatus; dsimp only; split <;> split <;> rfl
@[simp] theorem writeStatus_palBits (v : Word) : (s.writeStatus v).palBits = s.palBits := by
  unfold writeStatus; dsimp only; split <;> split <;> rfl
@[simp] theorem writeStatus_transRgb (v : Word) : (s.writeStatus v).transRgb = s.transRgb := by
  unfold writeStatus; dsimp only; split <;> split <;> rfl
@[simp] theorem writeStatus_transIndex (v : Word) : (s.writeStatus v).transIndex = s.transIndex := by
  unfold writeStatus; dsimp only; split <;> split <;> rfl
@[simp] theorem writeStatus_outLen (v : Word) : (s.writeStatus v).outLen = s.outLen := by
  unfold writeStatus; dsimp only; split <;> split <;> rfl
@[simp] theorem writeStatus_used (v : Word) : (s.writeStatus v).used = s.used := by
  unfold writeStatus; dsimp only; split <;> split <;> rfl
@[simp] theorem writeStatus_mem (v : Word) : (s.writeStatus v).mem = s.mem := by
  unfold writeStatus; dsimp only; split <;> split <;> rfl
@[simp] theorem writeStatus_running (v : Word) : (s.writeStatus v).running = s.running := by
  unfold writeStatus; dsimp only; split <;> split <;> rfl
@[simp] theorem writeStatus_inputs (v : Word) : (s.writeStatus v).inputs = s.inputs := by
  unfold writeStatus; dsimp only; split <;> split <;> rfl
@[simp] theorem writeStatus_resp (v : Word) : (s.writeStatus v).resp = s.resp := by
  unfold writeStatus; dsimp only; split <;> split <;> rfl
@[simp] theorem writeStatus_free (v : Word) : (s.writeStatus v).free = s.free := by
  unfold writeStatus; dsimp only; split <;> split <;> rfl

@[simp] theorem writeStatus_done (v : Word) :
    (s.writeStatus v).done = (!v.getLsbD 1 && s.done) := by
  unfold writeStatus; cases v.getLsbD 1 <;> cases v.getLsbD 2 <;> rfl
@[simp] theorem writeStatus_err (v : Word) :
    (s.writeStatus v).err = if v.getLsbD 2 then false else s.err := by
  unfold writeStatus; cases v.getLsbD 1 <;> cases v.getLsbD 2 <;> rfl
@[simp] theorem writeStatus_errCode (v : Word) :
    (s.writeStatus v).errCode = if v.getLsbD 2 then .none else s.errCode := by
  unfold writeStatus; cases v.getLsbD 1 <;> cases v.getLsbD 2 <;> rfl
@[simp] theorem writeStatus_errInfo (v : Word) :
    (s.writeStatus v).errInfo = if v.getLsbD 2 then 0 else s.errInfo := by
  unfold writeStatus; cases v.getLsbD 1 <;> cases v.getLsbD 2 <;> rfl

/-! ### complete -/

@[simp] theorem complete_params : s.complete.params = s.params := by
  unfold complete; split <;> [rfl; (split <;> rfl)]
@[simp] theorem complete_doneIe : s.complete.doneIe = s.doneIe := by
  unfold complete; split <;> [rfl; (split <;> rfl)]
@[simp] theorem complete_errIe : s.complete.errIe = s.errIe := by
  unfold complete; split <;> [rfl; (split <;> rfl)]
@[simp] theorem complete_transEn : s.complete.transEn = s.transEn := by
  unfold complete; split <;> [rfl; (split <;> rfl)]
@[simp] theorem complete_palValid : s.complete.palValid = s.palValid := by
  unfold complete; split <;> [rfl; (split <;> rfl)]
@[simp] theorem complete_outValid : s.complete.outValid = s.outValid := by
  unfold complete; split <;> [rfl; (split <;> rfl)]
@[simp] theorem complete_curOp : s.complete.curOp = s.curOp := by
  unfold complete; split <;> [rfl; (split <;> rfl)]
@[simp] theorem complete_width : s.complete.width = s.width := by
  unfold complete; split <;> [rfl; (split <;> rfl)]
@[simp] theorem complete_height : s.complete.height = s.height := by
  unfold complete; split <;> [rfl; (split <;> rfl)]
@[simp] theorem complete_quality : s.complete.quality = s.quality := by
  unfold complete; split <;> [rfl; (split <;> rfl)]
@[simp] theorem complete_palBits : s.complete.palBits = s.palBits := by
  unfold complete; split <;> [rfl; (split <;> rfl)]
@[simp] theorem complete_transRgb : s.complete.transRgb = s.transRgb := by
  unfold complete; split <;> [rfl; (split <;> rfl)]
@[simp] theorem complete_transIndex : s.complete.transIndex = s.transIndex := by
  unfold complete; split <;> [rfl; (split <;> rfl)]
@[simp] theorem complete_outLen : s.complete.outLen = s.outLen := by
  unfold complete; split <;> [rfl; (split <;> rfl)]
@[simp] theorem complete_used : s.complete.used = s.used := by
  unfold complete; split <;> [rfl; (split <;> rfl)]
@[simp] theorem complete_mem : s.complete.mem = s.mem := by
  unfold complete; split <;> [rfl; (split <;> rfl)]
@[simp] theorem complete_inputs : s.complete.inputs = s.inputs := by
  unfold complete; split <;> [rfl; (split <;> rfl)]
@[simp] theorem complete_resp : s.complete.resp = s.resp := by
  unfold complete; split <;> [rfl; (split <;> rfl)]
@[simp] theorem complete_free : s.complete.free = s.free := by
  unfold complete; split <;> [rfl; (split <;> rfl)]

@[simp] theorem complete_running : s.complete.running = none := by
  unfold complete; split <;> [assumption; (split <;> rfl)]

/-- Completing without a running command changes nothing. -/
theorem complete_of_idle {s : State} (h : s.running = none) : s.complete = s := by
  unfold complete; rw [h]

/-- Completing a command that raised no error: BUSY <- 0 and DONE <- 1 (40_control.md R125). -/
theorem complete_of_success {s : State} {r : Running} (h : s.running = some r)
    (he : r.error = none) : s.complete = s.finish := by
  unfold complete; rw [h]; dsimp only; rw [he]

/-- Completing a command that raised an error records it (60_exceptions.md R253, R254). -/
theorem complete_of_error {s : State} {r : Running} {e : CmdError} (h : s.running = some r)
    (he : r.error = some e) : s.complete = (s.recordError e.code e.info).finish := by
  unfold complete; rw [h]; dsimp only; rw [he]

/-! ### busy -/

theorem busy_eq_false_iff : s.busy = false ↔ s.running = none := by
  unfold busy; cases s.running <;> simp

theorem busy_eq_true_iff : s.busy = true ↔ ∃ r, s.running = some r := by
  unfold busy; cases s.running <;> simp

/-! ### snapshot -/

/-- The fields of the snapshot (40_control.md R123). -/
@[simp] theorem snapshot_w : s.snapshot.w = s.width := rfl
@[simp] theorem snapshot_h : s.snapshot.h = s.height := rfl
@[simp] theorem snapshot_n : s.snapshot.n = s.pixCount := rfl
@[simp] theorem snapshot_q : s.snapshot.q = s.quality := rfl
@[simp] theorem snapshot_p : s.snapshot.p = s.palBits := rfl
@[simp] theorem snapshot_t : s.snapshot.t = s.transRgb := rfl
@[simp] theorem snapshot_te : s.snapshot.te = s.transEn := rfl

/-- N is the exact product of the dimensions: "the product ... never wraps" (10_state.md R41). -/
theorem pixCount_toNat : s.pixCount.toNat = s.width.toNat * s.height.toNat := by
  have hw := s.width.isLt
  have hh := s.height.isLt
  have h : s.width.toNat * s.height.toNat < 2 ^ 32 := by nlinarith
  simp only [pixCount, BitVec.toNat_mul, BitVec.toNat_setWidth]
  rw [Nat.mod_eq_of_lt (by omega : s.width.toNat < 2 ^ 32),
    Nat.mod_eq_of_lt (by omega : s.height.toNat < 2 ^ 32), Nat.mod_eq_of_lt h]

end Sys2Proof.Machine.State
end

