-- ==== Sys2Proof/Laws/Bus.lean ====
section
/-! SUPPORT. Everything a host access can do, and where the address map puts each window (20_memory.md R71 to R80). -/

namespace Sys2Proof.Machine

/-! ## The address map -/

theorem locate_of_misaligned {p : Config.Params} {a : BitVec 26} (h : a.toNat % 4 ≠ 0) :
    locate p a = none := by
  unfold locate
  rw [if_pos h]

/-- What a window offset selects lies in the window's valid part (20_memory.md R71). -/
theorem locate_valid {p : Config.Params} {a : BitVec 26} {t : Target} (h : locate p a = some t) :
    (∃ r, t = .reg r ∧ regAt a.toNat = some r) ∨
    (∃ k, t = .pal k ∧ k < 256 ∧ a.toNat = palAddr k) ∨
    (∃ i, t = .pix i ∧ i < p.maxPixels ∧ i < 2 ^ 22 ∧ a.toNat = pixAddr i) ∨
    (∃ w, t = .idx w ∧ 4 * w < p.maxPixels ∧ w < 2 ^ 22 ∧ a.toNat = idxAddr (4 * w)) ∨
    (∃ w, t = .out w ∧ 4 * w < p.outCap ∧ w < 2 ^ 22 ∧ a.toNat = outAddr (4 * w)) := by
  have ha := a.isLt
  unfold locate at h
  dsimp only at h
  unfold palBase palEnd pixBase idxBase outBase at h
  unfold palAddr pixAddr idxAddr outAddr palBase pixBase idxBase outBase
  by_cases h0 : a.toNat % 4 = 0
  · rw [if_neg (by omega)] at h
    split at h
    · obtain ⟨r, hr, ht⟩ := Option.map_eq_some_iff.1 h
      exact .inl ⟨r, ht.symm, hr⟩
    · split at h
      · exact .inr (.inl ⟨_, (Option.some.inj h).symm, by omega, by omega⟩)
      · split at h
        · cases h
        · split at h
          · split at h
            · exact .inr (.inr (.inl ⟨_, (Option.some.inj h).symm, by omega, by omega, by omega⟩))
            · cases h
          · split at h
            · split at h
              · exact .inr (.inr (.inr (.inl
                  ⟨_, (Option.some.inj h).symm, by omega, by omega, by omega⟩)))
              · cases h
            · split at h
              · exact .inr (.inr (.inr (.inr
                  ⟨_, (Option.some.inj h).symm, by omega, by omega, by omega⟩)))
              · cases h
  · rw [if_pos h0] at h
    cases h

theorem locate_pal (p : Config.Params) {k : Nat} (h : k < 256) :
    locate p (BitVec.ofNat 26 (0x1000 + 4 * k)) = some (.pal k) := by
  have ha : (BitVec.ofNat 26 (0x1000 + 4 * k)).toNat = 0x1000 + 4 * k := by
    rw [BitVec.toNat_ofNat]
    omega
  unfold locate
  unfold palBase palEnd
  dsimp only
  rw [ha]
  rw [if_neg (by omega), if_neg (by omega), if_pos (by omega)]
  congr 2
  omega

theorem locate_pix {p : Config.Params} {i : Nat} (h : i < p.maxPixels) (hi : i < 2 ^ 22) :
    locate p (BitVec.ofNat 26 (0x1000000 + 4 * i)) = some (.pix i) := by
  have ha : (BitVec.ofNat 26 (0x1000000 + 4 * i)).toNat = 0x1000000 + 4 * i := by
    rw [BitVec.toNat_ofNat]
    omega
  have hd : (0x1000000 + 4 * i - 0x1000000) / 4 = i := by omega
  unfold locate
  unfold palBase palEnd pixBase idxBase
  dsimp only
  rw [ha, hd]
  rw [if_neg (by omega), if_neg (by omega), if_neg (by omega), if_neg (by omega),
    if_pos (by omega), if_pos h]

theorem locate_idx {p : Config.Params} {w : Nat} (h : 4 * w < p.maxPixels) (hw : w < 2 ^ 22) :
    locate p (BitVec.ofNat 26 (0x2000000 + 4 * w)) = some (.idx w) := by
  have ha : (BitVec.ofNat 26 (0x2000000 + 4 * w)).toNat = 0x2000000 + 4 * w := by
    rw [BitVec.toNat_ofNat]
    omega
  have hd : (0x2000000 + 4 * w - 0x2000000) / 4 = w := by omega
  unfold locate
  unfold palBase palEnd pixBase idxBase outBase
  dsimp only
  rw [ha, hd]
  rw [if_neg (by omega), if_neg (by omega), if_neg (by omega), if_neg (by omega),
    if_neg (by omega), if_pos (by omega), if_pos (by omega)]

theorem locate_out {p : Config.Params} {w : Nat} (h : 4 * w < p.outCap) (hw : w < 2 ^ 22) :
    locate p (BitVec.ofNat 26 (0x3000000 + 4 * w)) = some (.out w) := by
  have ha : (BitVec.ofNat 26 (0x3000000 + 4 * w)).toNat = 0x3000000 + 4 * w := by
    rw [BitVec.toNat_ofNat]
    omega
  have hd : (0x3000000 + 4 * w - 0x3000000) / 4 = w := by omega
  unfold locate
  unfold palBase palEnd pixBase idxBase outBase
  dsimp only
  rw [ha, hd]
  rw [if_neg (by omega), if_neg (by omega), if_neg (by omega), if_neg (by omega),
    if_neg (by omega), if_neg (by omega), if_pos (by omega)]

/-! ## Accesses -/

/-- Everything a read can do: an answer, and where a free value was drawn one draw (R82). -/
theorem hostRead_cases (a : BitVec 26) (s : State) :
    ∃ r d, hostRead a s = s.respond r d ∨ hostRead a s = (s.respond r d).draw := by
  unfold hostRead
  split
  · exact ⟨_, _, .inl rfl⟩
  · split
    · exact ⟨_, _, .inr rfl⟩
    · exact ⟨_, _, .inl rfl⟩
  · split
    · exact ⟨_, _, .inl rfl⟩
    · exact ⟨_, _, .inl rfl⟩

/-- A write to a register writes a configuration register or STATUS, or does nothing. -/
theorem writeReg_cases (v : Word) (s : State) (r : Reg) :
    writeReg v s r = s ∨ writeReg v s r = s.writeCtrl v ∨ writeReg v s r = s.writeStatus v ∨
    writeReg v s r = s.writeGeom v ∨ writeReg v s r = s.writeQuality v ∨
    writeReg v s r = s.writePalBits v ∨ writeReg v s r = s.writeTransRgb v := by
  cases r <;> simp [writeReg]

/-- Everything a write to anything but CMD can do: SLVERR, a register write, or the write of a
valid slot of a window while nothing runs. -/
theorem hostWrite_cases (a : BitVec 26) (v : Word) (s : State) :
    hostWrite a v s = s.busError ∨
    (∃ r, hostWrite a v s = (writeReg v s r).respond .okay 0) ∨
    (s.busy = false ∧ ∃ k, k < 256 ∧ hostWrite a v s =
      ((s.setMem (s.mem.writeColour (palAddr k) (wordColour v))).setPalValid true).respond .okay 0) ∨
    (s.busy = false ∧ ∃ i, i < s.params.maxPixels ∧ i < 2 ^ 22 ∧ hostWrite a v s =
      (s.setMem (s.mem.writeColour (pixAddr i) (wordColour v))).respond .okay 0) ∨
    (s.busy = false ∧ ∃ w, 4 * w < s.params.maxPixels ∧ w < 2 ^ 22 ∧ hostWrite a v s =
      (s.setMem (s.mem.writeBytes (idxAddr (4 * w)) (idxBytes s.params w v))).respond .okay 0) := by
  unfold hostWrite
  cases hl : locate s.params a with
  | none => exact .inl rfl
  | some t =>
    rcases locate_valid hl with ⟨r, rfl, -⟩ | ⟨k, rfl, hk, -⟩ | ⟨i, rfl, hi, hi', -⟩ |
      ⟨w, rfl, hw, hw', -⟩ | ⟨w, rfl, -⟩
    · exact .inr (.inl ⟨r, rfl⟩)
    · cases hb : s.busy
      · exact .inr (.inr (.inl ⟨rfl, k, hk, rfl⟩))
      · exact .inl rfl
    · cases hb : s.busy
      · exact .inr (.inr (.inr (.inl ⟨rfl, i, hi, hi', rfl⟩)))
      · exact .inl rfl
    · cases hb : s.busy
      · exact .inr (.inr (.inr (.inr ⟨rfl, w, hw, hw', rfl⟩)))
      · exact .inl rfl
    · exact .inl rfl

theorem idxBytes_length (p : Config.Params) (w : Nat) (v : Word) :
    (idxBytes p w v).length = min (p.maxPixels - 4 * w) 4 := by simp [idxBytes]

end Sys2Proof.Machine
end

