-- ==== Sys2Proof/Laws/Phases.lean ====
section
/-! SUPPORT. What each phase of a command writes and, field by field, what it leaves alone. -/

namespace Sys2Proof.Machine

/-! ### writePalette -/

@[simp] theorem writePalette_params (t : Training) (s : State) :
    (writePalette t s).params = s.params := rfl
@[simp] theorem writePalette_doneIe (t : Training) (s : State) :
    (writePalette t s).doneIe = s.doneIe := rfl
@[simp] theorem writePalette_errIe (t : Training) (s : State) :
    (writePalette t s).errIe = s.errIe := rfl
@[simp] theorem writePalette_transEn (t : Training) (s : State) :
    (writePalette t s).transEn = s.transEn := rfl
@[simp] theorem writePalette_done (t : Training) (s : State) :
    (writePalette t s).done = s.done := rfl
@[simp] theorem writePalette_err (t : Training) (s : State) :
    (writePalette t s).err = s.err := rfl
@[simp] theorem writePalette_palValid (t : Training) (s : State) :
    (writePalette t s).palValid = true := rfl
@[simp] theorem writePalette_outValid (t : Training) (s : State) :
    (writePalette t s).outValid = s.outValid := rfl
@[simp] theorem writePalette_curOp (t : Training) (s : State) :
    (writePalette t s).curOp = s.curOp := rfl
@[simp] theorem writePalette_errCode (t : Training) (s : State) :
    (writePalette t s).errCode = s.errCode := rfl
@[simp] theorem writePalette_errInfo (t : Training) (s : State) :
    (writePalette t s).errInfo = s.errInfo := rfl
@[simp] theorem writePalette_width (t : Training) (s : State) :
    (writePalette t s).width = s.width := rfl
@[simp] theorem writePalette_height (t : Training) (s : State) :
    (writePalette t s).height = s.height := rfl
@[simp] theorem writePalette_quality (t : Training) (s : State) :
    (writePalette t s).quality = s.quality := rfl
@[simp] theorem writePalette_palBits (t : Training) (s : State) :
    (writePalette t s).palBits = s.palBits := rfl
@[simp] theorem writePalette_transRgb (t : Training) (s : State) :
    (writePalette t s).transRgb = s.transRgb := rfl
@[simp] theorem writePalette_transIndex (t : Training) (s : State) :
    (writePalette t s).transIndex = s.transIndex := rfl
@[simp] theorem writePalette_outLen (t : Training) (s : State) :
    (writePalette t s).outLen = s.outLen := rfl
@[simp] theorem writePalette_used (t : Training) (s : State) :
    (writePalette t s).used = s.used := rfl
@[simp] theorem writePalette_mem (t : Training) (s : State) :
    (writePalette t s).mem = s.mem.writeColours (palAddr 0) (paletteOf t) := rfl
@[simp] theorem writePalette_running (t : Training) (s : State) :
    (writePalette t s).running = s.running := rfl
@[simp] theorem writePalette_inputs (t : Training) (s : State) :
    (writePalette t s).inputs = s.inputs := rfl
@[simp] theorem writePalette_resp (t : Training) (s : State) :
    (writePalette t s).resp = s.resp := rfl
@[simp] theorem writePalette_free (t : Training) (s : State) :
    (writePalette t s).free = s.free := rfl

/-! ### trainPhase -/

@[simp] theorem trainPhase_params (c : Snapshot) (s : State) :
    (trainPhase c s).params = s.params := by
  simp [trainPhase]
@[simp] theorem trainPhase_doneIe (c : Snapshot) (s : State) :
    (trainPhase c s).doneIe = s.doneIe := by
  simp [trainPhase]
@[simp] theorem trainPhase_errIe (c : Snapshot) (s : State) :
    (trainPhase c s).errIe = s.errIe := by
  simp [trainPhase]
@[simp] theorem trainPhase_transEn (c : Snapshot) (s : State) :
    (trainPhase c s).transEn = s.transEn := by
  simp [trainPhase]
@[simp] theorem trainPhase_done (c : Snapshot) (s : State) :
    (trainPhase c s).done = s.done := by
  simp [trainPhase]
@[simp] theorem trainPhase_err (c : Snapshot) (s : State) :
    (trainPhase c s).err = s.err := by
  simp [trainPhase]
@[simp] theorem trainPhase_palValid (c : Snapshot) (s : State) :
    (trainPhase c s).palValid = true := by
  simp [trainPhase]
@[simp] theorem trainPhase_outValid (c : Snapshot) (s : State) :
    (trainPhase c s).outValid = s.outValid := by
  simp [trainPhase]
@[simp] theorem trainPhase_curOp (c : Snapshot) (s : State) :
    (trainPhase c s).curOp = s.curOp := by
  simp [trainPhase]
@[simp] theorem trainPhase_errCode (c : Snapshot) (s : State) :
    (trainPhase c s).errCode = s.errCode := by
  simp [trainPhase]
@[simp] theorem trainPhase_errInfo (c : Snapshot) (s : State) :
    (trainPhase c s).errInfo = s.errInfo := by
  simp [trainPhase]
@[simp] theorem trainPhase_width (c : Snapshot) (s : State) :
    (trainPhase c s).width = s.width := by
  simp [trainPhase]
@[simp] theorem trainPhase_height (c : Snapshot) (s : State) :
    (trainPhase c s).height = s.height := by
  simp [trainPhase]
@[simp] theorem trainPhase_quality (c : Snapshot) (s : State) :
    (trainPhase c s).quality = s.quality := by
  simp [trainPhase]
@[simp] theorem trainPhase_palBits (c : Snapshot) (s : State) :
    (trainPhase c s).palBits = s.palBits := by
  simp [trainPhase]
@[simp] theorem trainPhase_transRgb (c : Snapshot) (s : State) :
    (trainPhase c s).transRgb = s.transRgb := by
  simp [trainPhase]
@[simp] theorem trainPhase_transIndex (c : Snapshot) (s : State) :
    (trainPhase c s).transIndex = s.transIndex := by
  simp [trainPhase]
@[simp] theorem trainPhase_outLen (c : Snapshot) (s : State) :
    (trainPhase c s).outLen = s.outLen := by
  simp [trainPhase]
@[simp] theorem trainPhase_used (c : Snapshot) (s : State) :
    (trainPhase c s).used = 0 := by
  simp [trainPhase]
@[simp] theorem trainPhase_mem (c : Snapshot) (s : State) :
    (trainPhase c s).mem = s.mem.writeColours (palAddr 0) (paletteOf (trainingOf c s)) := by
  simp [trainPhase]
@[simp] theorem trainPhase_running (c : Snapshot) (s : State) :
    (trainPhase c s).running = s.running.map fun r => { r with training := some (trainingOf c s) } := by
  simp [trainPhase]
@[simp] theorem trainPhase_inputs (c : Snapshot) (s : State) :
    (trainPhase c s).inputs = s.inputs := by
  simp [trainPhase]
@[simp] theorem trainPhase_resp (c : Snapshot) (s : State) :
    (trainPhase c s).resp = s.resp := by
  simp [trainPhase]
@[simp] theorem trainPhase_free (c : Snapshot) (s : State) :
    (trainPhase c s).free = s.free := by
  simp [trainPhase]

/-! ### mapPhase -/

@[simp] theorem mapPhase_params (c : Snapshot) (s : State) :
    (mapPhase c s).params = s.params := rfl
@[simp] theorem mapPhase_doneIe (c : Snapshot) (s : State) :
    (mapPhase c s).doneIe = s.doneIe := rfl
@[simp] theorem mapPhase_errIe (c : Snapshot) (s : State) :
    (mapPhase c s).errIe = s.errIe := rfl
@[simp] theorem mapPhase_transEn (c : Snapshot) (s : State) :
    (mapPhase c s).transEn = s.transEn := rfl
@[simp] theorem mapPhase_done (c : Snapshot) (s : State) :
    (mapPhase c s).done = s.done := rfl
@[simp] theorem mapPhase_err (c : Snapshot) (s : State) :
    (mapPhase c s).err = s.err := rfl
@[simp] theorem mapPhase_palValid (c : Snapshot) (s : State) :
    (mapPhase c s).palValid = s.palValid := rfl
@[simp] theorem mapPhase_outValid (c : Snapshot) (s : State) :
    (mapPhase c s).outValid = s.outValid := rfl
@[simp] theorem mapPhase_curOp (c : Snapshot) (s : State) :
    (mapPhase c s).curOp = s.curOp := rfl
@[simp] theorem mapPhase_errCode (c : Snapshot) (s : State) :
    (mapPhase c s).errCode = s.errCode := rfl
@[simp] theorem mapPhase_errInfo (c : Snapshot) (s : State) :
    (mapPhase c s).errInfo = s.errInfo := rfl
@[simp] theorem mapPhase_width (c : Snapshot) (s : State) :
    (mapPhase c s).width = s.width := rfl
@[simp] theorem mapPhase_height (c : Snapshot) (s : State) :
    (mapPhase c s).height = s.height := rfl
@[simp] theorem mapPhase_quality (c : Snapshot) (s : State) :
    (mapPhase c s).quality = s.quality := rfl
@[simp] theorem mapPhase_palBits (c : Snapshot) (s : State) :
    (mapPhase c s).palBits = s.palBits := rfl
@[simp] theorem mapPhase_transRgb (c : Snapshot) (s : State) :
    (mapPhase c s).transRgb = s.transRgb := rfl
@[simp] theorem mapPhase_transIndex (c : Snapshot) (s : State) :
    (mapPhase c s).transIndex = s.transIndex := rfl
@[simp] theorem mapPhase_outLen (c : Snapshot) (s : State) :
    (mapPhase c s).outLen = s.outLen := rfl
@[simp] theorem mapPhase_used (c : Snapshot) (s : State) :
    (mapPhase c s).used = usedOf (mappedIndices s.mem c.n.toNat) := rfl
@[simp] theorem mapPhase_mem (c : Snapshot) (s : State) :
    (mapPhase c s).mem = s.mem.writeBytes (idxAddr 0) (mappedIndices s.mem c.n.toNat) := rfl
@[simp] theorem mapPhase_running (c : Snapshot) (s : State) :
    (mapPhase c s).running = s.running := rfl
@[simp] theorem mapPhase_inputs (c : Snapshot) (s : State) :
    (mapPhase c s).inputs = s.inputs := rfl
@[simp] theorem mapPhase_resp (c : Snapshot) (s : State) :
    (mapPhase c s).resp = s.resp := rfl
@[simp] theorem mapPhase_free (c : Snapshot) (s : State) :
    (mapPhase c s).free = s.free := rfl

/-! ### transFindPhase -/

@[simp] theorem transFindPhase_params (c : Snapshot) (s : State) :
    (transFindPhase c s).params = s.params := rfl
@[simp] theorem transFindPhase_doneIe (c : Snapshot) (s : State) :
    (transFindPhase c s).doneIe = s.doneIe := rfl
@[simp] theorem transFindPhase_errIe (c : Snapshot) (s : State) :
    (transFindPhase c s).errIe = s.errIe := rfl
@[simp] theorem transFindPhase_transEn (c : Snapshot) (s : State) :
    (transFindPhase c s).transEn = s.transEn := rfl
@[simp] theorem transFindPhase_done (c : Snapshot) (s : State) :
    (transFindPhase c s).done = s.done := rfl
@[simp] theorem transFindPhase_err (c : Snapshot) (s : State) :
    (transFindPhase c s).err = s.err := rfl
@[simp] theorem transFindPhase_palValid (c : Snapshot) (s : State) :
    (transFindPhase c s).palValid = s.palValid := rfl
@[simp] theorem transFindPhase_outValid (c : Snapshot) (s : State) :
    (transFindPhase c s).outValid = s.outValid := rfl
@[simp] theorem transFindPhase_curOp (c : Snapshot) (s : State) :
    (transFindPhase c s).curOp = s.curOp := rfl
@[simp] theorem transFindPhase_errCode (c : Snapshot) (s : State) :
    (transFindPhase c s).errCode = s.errCode := rfl
@[simp] theorem transFindPhase_errInfo (c : Snapshot) (s : State) :
    (transFindPhase c s).errInfo = s.errInfo := rfl
@[simp] theorem transFindPhase_width (c : Snapshot) (s : State) :
    (transFindPhase c s).width = s.width := rfl
@[simp] theorem transFindPhase_height (c : Snapshot) (s : State) :
    (transFindPhase c s).height = s.height := rfl
@[simp] theorem transFindPhase_quality (c : Snapshot) (s : State) :
    (transFindPhase c s).quality = s.quality := rfl
@[simp] theorem transFindPhase_palBits (c : Snapshot) (s : State) :
    (transFindPhase c s).palBits = s.palBits := rfl
@[simp] theorem transFindPhase_transRgb (c : Snapshot) (s : State) :
    (transFindPhase c s).transRgb = s.transRgb := rfl
@[simp] theorem transFindPhase_transIndex (c : Snapshot) (s : State) :
    (transFindPhase c s).transIndex = BitVec.ofNat 8 (transFind c.t s.used s.mem.palette) := rfl
@[simp] theorem transFindPhase_outLen (c : Snapshot) (s : State) :
    (transFindPhase c s).outLen = s.outLen := rfl
@[simp] theorem transFindPhase_used (c : Snapshot) (s : State) :
    (transFindPhase c s).used = s.used := rfl
@[simp] theorem transFindPhase_mem (c : Snapshot) (s : State) :
    (transFindPhase c s).mem = s.mem := rfl
@[simp] theorem transFindPhase_running (c : Snapshot) (s : State) :
    (transFindPhase c s).running = s.running := rfl
@[simp] theorem transFindPhase_inputs (c : Snapshot) (s : State) :
    (transFindPhase c s).inputs = s.inputs := rfl
@[simp] theorem transFindPhase_resp (c : Snapshot) (s : State) :
    (transFindPhase c s).resp = s.resp := rfl
@[simp] theorem transFindPhase_free (c : Snapshot) (s : State) :
    (transFindPhase c s).free = s.free := rfl

/-! ### openOutput -/

@[simp] theorem openOutput_params (s : State) :
    (openOutput s).params = s.params := rfl
@[simp] theorem openOutput_doneIe (s : State) :
    (openOutput s).doneIe = s.doneIe := rfl
@[simp] theorem openOutput_errIe (s : State) :
    (openOutput s).errIe = s.errIe := rfl
@[simp] theorem openOutput_transEn (s : State) :
    (openOutput s).transEn = s.transEn := rfl
@[simp] theorem openOutput_done (s : State) :
    (openOutput s).done = s.done := rfl
@[simp] theorem openOutput_err (s : State) :
    (openOutput s).err = s.err := rfl
@[simp] theorem openOutput_palValid (s : State) :
    (openOutput s).palValid = s.palValid := rfl
@[simp] theorem openOutput_outValid (s : State) :
    (openOutput s).outValid = false := rfl
@[simp] theorem openOutput_curOp (s : State) :
    (openOutput s).curOp = s.curOp := rfl
@[simp] theorem openOutput_errCode (s : State) :
    (openOutput s).errCode = s.errCode := rfl
@[simp] theorem openOutput_errInfo (s : State) :
    (openOutput s).errInfo = s.errInfo := rfl
@[simp] theorem openOutput_width (s : State) :
    (openOutput s).width = s.width := rfl
@[simp] theorem openOutput_height (s : State) :
    (openOutput s).height = s.height := rfl
@[simp] theorem openOutput_quality (s : State) :
    (openOutput s).quality = s.quality := rfl
@[simp] theorem openOutput_palBits (s : State) :
    (openOutput s).palBits = s.palBits := rfl
@[simp] theorem openOutput_transRgb (s : State) :
    (openOutput s).transRgb = s.transRgb := rfl
@[simp] theorem openOutput_transIndex (s : State) :
    (openOutput s).transIndex = s.transIndex := rfl
@[simp] theorem openOutput_outLen (s : State) :
    (openOutput s).outLen = 0 := rfl
@[simp] theorem openOutput_used (s : State) :
    (openOutput s).used = s.used := rfl
@[simp] theorem openOutput_mem (s : State) :
    (openOutput s).mem = s.mem.openOut s.free := rfl
@[simp] theorem openOutput_running (s : State) :
    (openOutput s).running = s.running := rfl
@[simp] theorem openOutput_inputs (s : State) :
    (openOutput s).inputs = s.inputs := rfl
@[simp] theorem openOutput_resp (s : State) :
    (openOutput s).resp = s.resp := rfl
@[simp] theorem openOutput_free (s : State) :
    (openOutput s).free = s.free + 1 := rfl

/-! ### commit -/

@[simp] theorem commit_params (b : List Byte) (s : State) :
    (commit b s).params = s.params := by
  unfold commit; split <;> rfl
@[simp] theorem commit_doneIe (b : List Byte) (s : State) :
    (commit b s).doneIe = s.doneIe := by
  unfold commit; split <;> rfl
@[simp] theorem commit_errIe (b : List Byte) (s : State) :
    (commit b s).errIe = s.errIe := by
  unfold commit; split <;> rfl
@[simp] theorem commit_transEn (b : List Byte) (s : State) :
    (commit b s).transEn = s.transEn := by
  unfold commit; split <;> rfl
@[simp] theorem commit_done (b : List Byte) (s : State) :
    (commit b s).done = s.done := by
  unfold commit; split <;> rfl
@[simp] theorem commit_err (b : List Byte) (s : State) :
    (commit b s).err = s.err := by
  unfold commit; split <;> rfl
@[simp] theorem commit_palValid (b : List Byte) (s : State) :
    (commit b s).palValid = s.palValid := by
  unfold commit; split <;> rfl
@[simp] theorem commit_curOp (b : List Byte) (s : State) :
    (commit b s).curOp = s.curOp := by
  unfold commit; split <;> rfl
@[simp] theorem commit_errCode (b : List Byte) (s : State) :
    (commit b s).errCode = s.errCode := by
  unfold commit; split <;> rfl
@[simp] theorem commit_errInfo (b : List Byte) (s : State) :
    (commit b s).errInfo = s.errInfo := by
  unfold commit; split <;> rfl
@[simp] theorem commit_width (b : List Byte) (s : State) :
    (commit b s).width = s.width := by
  unfold commit; split <;> rfl
@[simp] theorem commit_height (b : List Byte) (s : State) :
    (commit b s).height = s.height := by
  unfold commit; split <;> rfl
@[simp] theorem commit_quality (b : List Byte) (s : State) :
    (commit b s).quality = s.quality := by
  unfold commit; split <;> rfl
@[simp] theorem commit_palBits (b : List Byte) (s : State) :
    (commit b s).palBits = s.palBits := by
  unfold commit; split <;> rfl
@[simp] theorem commit_transRgb (b : List Byte) (s : State) :
    (commit b s).transRgb = s.transRgb := by
  unfold commit; split <;> rfl
@[simp] theorem commit_transIndex (b : List Byte) (s : State) :
    (commit b s).transIndex = s.transIndex := by
  unfold commit; split <;> rfl
@[simp] theorem commit_used (b : List Byte) (s : State) :
    (commit b s).used = s.used := by
  unfold commit; split <;> rfl
@[simp] theorem commit_inputs (b : List Byte) (s : State) :
    (commit b s).inputs = s.inputs := by
  unfold commit; split <;> rfl
@[simp] theorem commit_resp (b : List Byte) (s : State) :
    (commit b s).resp = s.resp := by
  unfold commit; split <;> rfl
@[simp] theorem commit_free (b : List Byte) (s : State) :
    (commit b s).free = s.free := by
  unfold commit; split <;> rfl

/-! ### compressIndices -/

@[simp] theorem compressIndices_params (m : Nat) (idx : List Byte) (s : State) :
    (compressIndices m idx s).params = s.params := by
  unfold compressIndices; split <;> simp
@[simp] theorem compressIndices_doneIe (m : Nat) (idx : List Byte) (s : State) :
    (compressIndices m idx s).doneIe = s.doneIe := by
  unfold compressIndices; split <;> simp
@[simp] theorem compressIndices_errIe (m : Nat) (idx : List Byte) (s : State) :
    (compressIndices m idx s).errIe = s.errIe := by
  unfold compressIndices; split <;> simp
@[simp] theorem compressIndices_transEn (m : Nat) (idx : List Byte) (s : State) :
    (compressIndices m idx s).transEn = s.transEn := by
  unfold compressIndices; split <;> simp
@[simp] theorem compressIndices_done (m : Nat) (idx : List Byte) (s : State) :
    (compressIndices m idx s).done = s.done := by
  unfold compressIndices; split <;> simp
@[simp] theorem compressIndices_err (m : Nat) (idx : List Byte) (s : State) :
    (compressIndices m idx s).err = s.err := by
  unfold compressIndices; split <;> simp
@[simp] theorem compressIndices_palValid (m : Nat) (idx : List Byte) (s : State) :
    (compressIndices m idx s).palValid = s.palValid := by
  unfold compressIndices; split <;> simp
@[simp] theorem compressIndices_curOp (m : Nat) (idx : List Byte) (s : State) :
    (compressIndices m idx s).curOp = s.curOp := by
  unfold compressIndices; split <;> simp
@[simp] theorem compressIndices_errCode (m : Nat) (idx : List Byte) (s : State) :
    (compressIndices m idx s).errCode = s.errCode := by
  unfold compressIndices; split <;> simp
@[simp] theorem compressIndices_errInfo (m : Nat) (idx : List Byte) (s : State) :
    (compressIndices m idx s).errInfo = s.errInfo := by
  unfold compressIndices; split <;> simp
@[simp] theorem compressIndices_width (m : Nat) (idx : List Byte) (s : State) :
    (compressIndices m idx s).width = s.width := by
  unfold compressIndices; split <;> simp
@[simp] theorem compressIndices_height (m : Nat) (idx : List Byte) (s : State) :
    (compressIndices m idx s).height = s.height := by
  unfold compressIndices; split <;> simp
@[simp] theorem compressIndices_quality (m : Nat) (idx : List Byte) (s : State) :
    (compressIndices m idx s).quality = s.quality := by
  unfold compressIndices; split <;> simp
@[simp] theorem compressIndices_palBits (m : Nat) (idx : List Byte) (s : State) :
    (compressIndices m idx s).palBits = s.palBits := by
  unfold compressIndices; split <;> simp
@[simp] theorem compressIndices_transRgb (m : Nat) (idx : List Byte) (s : State) :
    (compressIndices m idx s).transRgb = s.transRgb := by
  unfold compressIndices; split <;> simp
@[simp] theorem compressIndices_transIndex (m : Nat) (idx : List Byte) (s : State) :
    (compressIndices m idx s).transIndex = s.transIndex := by
  unfold compressIndices; split <;> simp
@[simp] theorem compressIndices_used (m : Nat) (idx : List Byte) (s : State) :
    (compressIndices m idx s).used = s.used := by
  unfold compressIndices; split <;> simp
@[simp] theorem compressIndices_inputs (m : Nat) (idx : List Byte) (s : State) :
    (compressIndices m idx s).inputs = s.inputs := by
  unfold compressIndices; split <;> simp
@[simp] theorem compressIndices_resp (m : Nat) (idx : List Byte) (s : State) :
    (compressIndices m idx s).resp = s.resp := by
  unfold compressIndices; split <;> simp
@[simp] theorem compressIndices_free (m : Nat) (idx : List Byte) (s : State) :
    (compressIndices m idx s).free = s.free := by
  unfold compressIndices; split <;> simp

/-! ### compressPhase -/

@[simp] theorem compressPhase_params (d : Nat) (c : Snapshot) (s : State) :
    (compressPhase d c s).params = s.params := by
  simp [compressPhase]
@[simp] theorem compressPhase_doneIe (d : Nat) (c : Snapshot) (s : State) :
    (compressPhase d c s).doneIe = s.doneIe := by
  simp [compressPhase]
@[simp] theorem compressPhase_errIe (d : Nat) (c : Snapshot) (s : State) :
    (compressPhase d c s).errIe = s.errIe := by
  simp [compressPhase]
@[simp] theorem compressPhase_transEn (d : Nat) (c : Snapshot) (s : State) :
    (compressPhase d c s).transEn = s.transEn := by
  simp [compressPhase]
@[simp] theorem compressPhase_done (d : Nat) (c : Snapshot) (s : State) :
    (compressPhase d c s).done = s.done := by
  simp [compressPhase]
@[simp] theorem compressPhase_err (d : Nat) (c : Snapshot) (s : State) :
    (compressPhase d c s).err = s.err := by
  simp [compressPhase]
@[simp] theorem compressPhase_palValid (d : Nat) (c : Snapshot) (s : State) :
    (compressPhase d c s).palValid = s.palValid := by
  simp [compressPhase]
@[simp] theorem compressPhase_curOp (d : Nat) (c : Snapshot) (s : State) :
    (compressPhase d c s).curOp = s.curOp := by
  simp [compressPhase]
@[simp] theorem compressPhase_errCode (d : Nat) (c : Snapshot) (s : State) :
    (compressPhase d c s).errCode = s.errCode := by
  simp [compressPhase]
@[simp] theorem compressPhase_errInfo (d : Nat) (c : Snapshot) (s : State) :
    (compressPhase d c s).errInfo = s.errInfo := by
  simp [compressPhase]
@[simp] theorem compressPhase_width (d : Nat) (c : Snapshot) (s : State) :
    (compressPhase d c s).width = s.width := by
  simp [compressPhase]
@[simp] theorem compressPhase_height (d : Nat) (c : Snapshot) (s : State) :
    (compressPhase d c s).height = s.height := by
  simp [compressPhase]
@[simp] theorem compressPhase_quality (d : Nat) (c : Snapshot) (s : State) :
    (compressPhase d c s).quality = s.quality := by
  simp [compressPhase]
@[simp] theorem compressPhase_palBits (d : Nat) (c : Snapshot) (s : State) :
    (compressPhase d c s).palBits = s.palBits := by
  simp [compressPhase]
@[simp] theorem compressPhase_transRgb (d : Nat) (c : Snapshot) (s : State) :
    (compressPhase d c s).transRgb = s.transRgb := by
  simp [compressPhase]
@[simp] theorem compressPhase_transIndex (d : Nat) (c : Snapshot) (s : State) :
    (compressPhase d c s).transIndex = s.transIndex := by
  simp [compressPhase]
@[simp] theorem compressPhase_used (d : Nat) (c : Snapshot) (s : State) :
    (compressPhase d c s).used = s.used := by
  simp [compressPhase]
@[simp] theorem compressPhase_inputs (d : Nat) (c : Snapshot) (s : State) :
    (compressPhase d c s).inputs = s.inputs := by
  simp [compressPhase]
@[simp] theorem compressPhase_resp (d : Nat) (c : Snapshot) (s : State) :
    (compressPhase d c s).resp = s.resp := by
  simp [compressPhase]
@[simp] theorem compressPhase_free (d : Nat) (c : Snapshot) (s : State) :
    (compressPhase d c s).free = s.free + 1 := by
  simp [compressPhase]

/-! ### compressBody -/

@[simp] theorem compressBody_params (c : Snapshot) (s : State) :
    (compressBody c s).params = s.params := by
  simp [compressBody]
@[simp] theorem compressBody_doneIe (c : Snapshot) (s : State) :
    (compressBody c s).doneIe = s.doneIe := by
  simp [compressBody]
@[simp] theorem compressBody_errIe (c : Snapshot) (s : State) :
    (compressBody c s).errIe = s.errIe := by
  simp [compressBody]
@[simp] theorem compressBody_transEn (c : Snapshot) (s : State) :
    (compressBody c s).transEn = s.transEn := by
  simp [compressBody]
@[simp] theorem compressBody_done (c : Snapshot) (s : State) :
    (compressBody c s).done = s.done := by
  simp [compressBody]
@[simp] theorem compressBody_err (c : Snapshot) (s : State) :
    (compressBody c s).err = s.err := by
  simp [compressBody]
@[simp] theorem compressBody_palValid (c : Snapshot) (s : State) :
    (compressBody c s).palValid = s.palValid := by
  simp [compressBody]
@[simp] theorem compressBody_curOp (c : Snapshot) (s : State) :
    (compressBody c s).curOp = s.curOp := by
  simp [compressBody]
@[simp] theorem compressBody_errCode (c : Snapshot) (s : State) :
    (compressBody c s).errCode = s.errCode := by
  simp [compressBody]
@[simp] theorem compressBody_errInfo (c : Snapshot) (s : State) :
    (compressBody c s).errInfo = s.errInfo := by
  simp [compressBody]
@[simp] theorem compressBody_width (c : Snapshot) (s : State) :
    (compressBody c s).width = s.width := by
  simp [compressBody]
@[simp] theorem compressBody_height (c : Snapshot) (s : State) :
    (compressBody c s).height = s.height := by
  simp [compressBody]
@[simp] theorem compressBody_quality (c : Snapshot) (s : State) :
    (compressBody c s).quality = s.quality := by
  simp [compressBody]
@[simp] theorem compressBody_palBits (c : Snapshot) (s : State) :
    (compressBody c s).palBits = s.palBits := by
  simp [compressBody]
@[simp] theorem compressBody_transRgb (c : Snapshot) (s : State) :
    (compressBody c s).transRgb = s.transRgb := by
  simp [compressBody]
@[simp] theorem compressBody_transIndex (c : Snapshot) (s : State) :
    (compressBody c s).transIndex = s.transIndex := by
  simp [compressBody]
@[simp] theorem compressBody_used (c : Snapshot) (s : State) :
    (compressBody c s).used = s.used := by
  simp [compressBody]
@[simp] theorem compressBody_inputs (c : Snapshot) (s : State) :
    (compressBody c s).inputs = s.inputs := by
  simp [compressBody]
@[simp] theorem compressBody_resp (c : Snapshot) (s : State) :
    (compressBody c s).resp = s.resp := by
  simp [compressBody]
@[simp] theorem compressBody_free (c : Snapshot) (s : State) :
    (compressBody c s).free = s.free + 1 := by
  simp [compressBody]

/-! ### quantizeBody -/

@[simp] theorem quantizeBody_params (c : Snapshot) (s : State) :
    (quantizeBody c s).params = s.params := by
  simp [quantizeBody]
@[simp] theorem quantizeBody_doneIe (c : Snapshot) (s : State) :
    (quantizeBody c s).doneIe = s.doneIe := by
  simp [quantizeBody]
@[simp] theorem quantizeBody_errIe (c : Snapshot) (s : State) :
    (quantizeBody c s).errIe = s.errIe := by
  simp [quantizeBody]
@[simp] theorem quantizeBody_transEn (c : Snapshot) (s : State) :
    (quantizeBody c s).transEn = s.transEn := by
  simp [quantizeBody]
@[simp] theorem quantizeBody_done (c : Snapshot) (s : State) :
    (quantizeBody c s).done = s.done := by
  simp [quantizeBody]
@[simp] theorem quantizeBody_err (c : Snapshot) (s : State) :
    (quantizeBody c s).err = s.err := by
  simp [quantizeBody]
@[simp] theorem quantizeBody_palValid (c : Snapshot) (s : State) :
    (quantizeBody c s).palValid = true := by
  simp [quantizeBody]
@[simp] theorem quantizeBody_outValid (c : Snapshot) (s : State) :
    (quantizeBody c s).outValid = s.outValid := by
  simp [quantizeBody]
@[simp] theorem quantizeBody_curOp (c : Snapshot) (s : State) :
    (quantizeBody c s).curOp = s.curOp := by
  simp [quantizeBody]
@[simp] theorem quantizeBody_errCode (c : Snapshot) (s : State) :
    (quantizeBody c s).errCode = s.errCode := by
  simp [quantizeBody]
@[simp] theorem quantizeBody_errInfo (c : Snapshot) (s : State) :
    (quantizeBody c s).errInfo = s.errInfo := by
  simp [quantizeBody]
@[simp] theorem quantizeBody_width (c : Snapshot) (s : State) :
    (quantizeBody c s).width = s.width := by
  simp [quantizeBody]
@[simp] theorem quantizeBody_height (c : Snapshot) (s : State) :
    (quantizeBody c s).height = s.height := by
  simp [quantizeBody]
@[simp] theorem quantizeBody_quality (c : Snapshot) (s : State) :
    (quantizeBody c s).quality = s.quality := by
  simp [quantizeBody]
@[simp] theorem quantizeBody_palBits (c : Snapshot) (s : State) :
    (quantizeBody c s).palBits = s.palBits := by
  simp [quantizeBody]
@[simp] theorem quantizeBody_transRgb (c : Snapshot) (s : State) :
    (quantizeBody c s).transRgb = s.transRgb := by
  simp [quantizeBody]
@[simp] theorem quantizeBody_transIndex (c : Snapshot) (s : State) :
    (quantizeBody c s).transIndex = s.transIndex := by
  simp [quantizeBody]
@[simp] theorem quantizeBody_outLen (c : Snapshot) (s : State) :
    (quantizeBody c s).outLen = s.outLen := by
  simp [quantizeBody]
@[simp] theorem quantizeBody_inputs (c : Snapshot) (s : State) :
    (quantizeBody c s).inputs = s.inputs := by
  simp [quantizeBody]
@[simp] theorem quantizeBody_resp (c : Snapshot) (s : State) :
    (quantizeBody c s).resp = s.resp := by
  simp [quantizeBody]
@[simp] theorem quantizeBody_free (c : Snapshot) (s : State) :
    (quantizeBody c s).free = s.free := by
  simp [quantizeBody]

/-! ### frameTransparency -/

@[simp] theorem frameTransparency_params (c : Snapshot) (s : State) :
    (frameTransparency c s).params = s.params := by
  unfold frameTransparency; split <;> rfl
@[simp] theorem frameTransparency_doneIe (c : Snapshot) (s : State) :
    (frameTransparency c s).doneIe = s.doneIe := by
  unfold frameTransparency; split <;> rfl
@[simp] theorem frameTransparency_errIe (c : Snapshot) (s : State) :
    (frameTransparency c s).errIe = s.errIe := by
  unfold frameTransparency; split <;> rfl
@[simp] theorem frameTransparency_transEn (c : Snapshot) (s : State) :
    (frameTransparency c s).transEn = s.transEn := by
  unfold frameTransparency; split <;> rfl
@[simp] theorem frameTransparency_done (c : Snapshot) (s : State) :
    (frameTransparency c s).done = s.done := by
  unfold frameTransparency; split <;> rfl
@[simp] theorem frameTransparency_err (c : Snapshot) (s : State) :
    (frameTransparency c s).err = s.err := by
  unfold frameTransparency; split <;> rfl
@[simp] theorem frameTransparency_palValid (c : Snapshot) (s : State) :
    (frameTransparency c s).palValid = s.palValid := by
  unfold frameTransparency; split <;> rfl
@[simp] theorem frameTransparency_outValid (c : Snapshot) (s : State) :
    (frameTransparency c s).outValid = s.outValid := by
  unfold frameTransparency; split <;> rfl
@[simp] theorem frameTransparency_curOp (c : Snapshot) (s : State) :
    (frameTransparency c s).curOp = s.curOp := by
  unfold frameTransparency; split <;> rfl
@[simp] theorem frameTransparency_errCode (c : Snapshot) (s : State) :
    (frameTransparency c s).errCode = s.errCode := by
  unfold frameTransparency; split <;> rfl
@[simp] theorem frameTransparency_errInfo (c : Snapshot) (s : State) :
    (frameTransparency c s).errInfo = s.errInfo := by
  unfold frameTransparency; split <;> rfl
@[simp] theorem frameTransparency_width (c : Snapshot) (s : State) :
    (frameTransparency c s).width = s.width := by
  unfold frameTransparency; split <;> rfl
@[simp] theorem frameTransparency_height (c : Snapshot) (s : State) :
    (frameTransparency c s).height = s.height := by
  unfold frameTransparency; split <;> rfl
@[simp] theorem frameTransparency_quality (c : Snapshot) (s : State) :
    (frameTransparency c s).quality = s.quality := by
  unfold frameTransparency; split <;> rfl
@[simp] theorem frameTransparency_palBits (c : Snapshot) (s : State) :
    (frameTransparency c s).palBits = s.palBits := by
  unfold frameTransparency; split <;> rfl
@[simp] theorem frameTransparency_transRgb (c : Snapshot) (s : State) :
    (frameTransparency c s).transRgb = s.transRgb := by
  unfold frameTransparency; split <;> rfl
@[simp] theorem frameTransparency_outLen (c : Snapshot) (s : State) :
    (frameTransparency c s).outLen = s.outLen := by
  unfold frameTransparency; split <;> rfl
@[simp] theorem frameTransparency_used (c : Snapshot) (s : State) :
    (frameTransparency c s).used = s.used := by
  unfold frameTransparency; split <;> rfl
@[simp] theorem frameTransparency_mem (c : Snapshot) (s : State) :
    (frameTransparency c s).mem = s.mem := by
  unfold frameTransparency; split <;> rfl
@[simp] theorem frameTransparency_running (c : Snapshot) (s : State) :
    (frameTransparency c s).running = s.running := by
  unfold frameTransparency; split <;> rfl
@[simp] theorem frameTransparency_inputs (c : Snapshot) (s : State) :
    (frameTransparency c s).inputs = s.inputs := by
  unfold frameTransparency; split <;> rfl
@[simp] theorem frameTransparency_resp (c : Snapshot) (s : State) :
    (frameTransparency c s).resp = s.resp := by
  unfold frameTransparency; split <;> rfl
@[simp] theorem frameTransparency_free (c : Snapshot) (s : State) :
    (frameTransparency c s).free = s.free := by
  unfold frameTransparency; split <;> rfl

/-! ### frameBody -/

@[simp] theorem frameBody_params (c : Snapshot) (s : State) :
    (frameBody c s).params = s.params := by
  simp [frameBody]
@[simp] theorem frameBody_doneIe (c : Snapshot) (s : State) :
    (frameBody c s).doneIe = s.doneIe := by
  simp [frameBody]
@[simp] theorem frameBody_errIe (c : Snapshot) (s : State) :
    (frameBody c s).errIe = s.errIe := by
  simp [frameBody]
@[simp] theorem frameBody_transEn (c : Snapshot) (s : State) :
    (frameBody c s).transEn = s.transEn := by
  simp [frameBody]
@[simp] theorem frameBody_done (c : Snapshot) (s : State) :
    (frameBody c s).done = s.done := by
  simp [frameBody]
@[simp] theorem frameBody_err (c : Snapshot) (s : State) :
    (frameBody c s).err = s.err := by
  simp [frameBody]
@[simp] theorem frameBody_palValid (c : Snapshot) (s : State) :
    (frameBody c s).palValid = true := by
  simp [frameBody]
@[simp] theorem frameBody_curOp (c : Snapshot) (s : State) :
    (frameBody c s).curOp = s.curOp := by
  simp [frameBody]
@[simp] theorem frameBody_errCode (c : Snapshot) (s : State) :
    (frameBody c s).errCode = s.errCode := by
  simp [frameBody]
@[simp] theorem frameBody_errInfo (c : Snapshot) (s : State) :
    (frameBody c s).errInfo = s.errInfo := by
  simp [frameBody]
@[simp] theorem frameBody_width (c : Snapshot) (s : State) :
    (frameBody c s).width = s.width := by
  simp [frameBody]
@[simp] theorem frameBody_height (c : Snapshot) (s : State) :
    (frameBody c s).height = s.height := by
  simp [frameBody]
@[simp] theorem frameBody_quality (c : Snapshot) (s : State) :
    (frameBody c s).quality = s.quality := by
  simp [frameBody]
@[simp] theorem frameBody_palBits (c : Snapshot) (s : State) :
    (frameBody c s).palBits = s.palBits := by
  simp [frameBody]
@[simp] theorem frameBody_transRgb (c : Snapshot) (s : State) :
    (frameBody c s).transRgb = s.transRgb := by
  simp [frameBody]
@[simp] theorem frameBody_inputs (c : Snapshot) (s : State) :
    (frameBody c s).inputs = s.inputs := by
  simp [frameBody]
@[simp] theorem frameBody_resp (c : Snapshot) (s : State) :
    (frameBody c s).resp = s.resp := by
  simp [frameBody]
@[simp] theorem frameBody_free (c : Snapshot) (s : State) :
    (frameBody c s).free = s.free + 1 := by
  simp [frameBody]

/-! ### What the composed phases do to the fields they write -/

/-- A commit that does not fit leaves memory and the output registers alone (43_lzw.md R215). -/
theorem commit_overflow {b : List Byte} {s : State} (h : s.params.outCap < b.length) :
    commit b s = s.raiseInPhase .outOverflow (BitVec.ofNat 32 s.params.outCap) := by
  unfold commit
  rw [if_pos h]

/-- A commit that fits stores the stream and sets OUT_LEN and OUT_VALID (43_lzw.md R215). -/
theorem commit_fits {b : List Byte} {s : State} (h : b.length ≤ s.params.outCap) :
    commit b s = (s.setMem (s.mem.writeBytes (outAddr 0) b)).setOutput true
      (BitVec.ofNat 25 b.length) := by
  unfold commit
  rw [if_neg (by omega)]

theorem compressIndices_range {m p : Nat} {idx : List Byte} {s : State}
    (h : rangeError m idx = some p) :
    compressIndices m idx s = s.raiseInPhase .indexRange (BitVec.ofNat 32 p) := by
  unfold compressIndices
  rw [h]

theorem compressIndices_ok {m : Nat} {idx : List Byte} {s : State} (h : rangeError m idx = none) :
    compressIndices m idx s = commit (lzwStream m idx) (s.setCoder (lzw m idx)) := by
  unfold compressIndices
  rw [h]

/-- Everything a COMPRESS phase can do: an index out of range, a stream that does not fit, or the
whole stream in OUTMEM (43_lzw.md R200). -/
theorem compressPhase_cases (d : Nat) (c : Snapshot) (s : State) :
    let m := minCodeSize d
    let idx := s.mem.indices c.n.toNat
    (∃ p, rangeError m idx = some p ∧
      compressPhase d c s = (openOutput s).raiseInPhase .indexRange (BitVec.ofNat 32 p)) ∨
    (rangeError m idx = none ∧ s.params.outCap < (lzwStream m idx).length ∧
      compressPhase d c s = ((openOutput s).setCoder (lzw m idx)).raiseInPhase .outOverflow
        (BitVec.ofNat 32 s.params.outCap)) ∨
    (rangeError m idx = none ∧ (lzwStream m idx).length ≤ s.params.outCap ∧
      compressPhase d c s = (((openOutput s).setCoder (lzw m idx)).setMem
        ((s.mem.openOut s.free).writeBytes (outAddr 0) (lzwStream m idx))).setOutput true
          (BitVec.ofNat 25 (lzwStream m idx).length)) := by
  intro m idx
  unfold compressPhase
  cases h : rangeError m idx with
  | some p => exact .inl ⟨p, rfl, compressIndices_range h⟩
  | none =>
    refine .inr ?_
    rw [compressIndices_ok h]
    by_cases hl : s.params.outCap < (lzwStream m idx).length
    · exact .inl ⟨rfl, hl, commit_overflow hl⟩
    · exact .inr ⟨rfl, by omega, commit_fits (by simpa using hl)⟩

/-- Phases keep BUSY at 1: a command ends only at its completion. -/
theorem compressPhase_running_isSome (d : Nat) (c : Snapshot) (s : State) :
    (compressPhase d c s).running.isSome = s.running.isSome := by
  rcases compressPhase_cases d c s with ⟨p, -, h⟩ | ⟨-, -, h⟩ | ⟨-, -, h⟩ <;> rw [h] <;> simp

end Sys2Proof.Machine
end

