-- ==== Sys2Proof/Laws/Issue.lean ====
section
/-! SUPPORT. Everything presenting a command, serving an event and taking a step can do, said once. -/

namespace Sys2Proof.Machine

/-! ## Presenting a command -/

/-- While BUSY is 1 a presented command only records CMD_WHILE_BUSY (40_control.md R122). -/
theorem issue_of_busy {s : State} (h : s.busy = true) (i : Instr)
    (body : Snapshot → State → State) :
    issue i body s = .next (s.recordError .cmdWhileBusy (encode i)) := by
  unfold issue
  rw [if_pos h]

/-- A failed precondition is recorded, and the command completes at once (60_exceptions.md R254). -/
theorem issue_of_failed {s : State} (h : s.busy = false) {i : Instr} {e : CmdError}
    (he : preconditionError i s = some e) (body : Snapshot → State → State) :
    issue i body s = .next ((s.accept i).recordError e.code e.info).finish := by
  unfold issue
  rw [if_neg (by simp [h]), he]
  rfl

/-- An accepted command with its preconditions met runs its body (40_control.md R124). -/
theorem issue_of_accepted {s : State} (h : s.busy = false) {i : Instr}
    (he : preconditionError i s = none) (body : Snapshot → State → State) :
    issue i body s = .next (body s.snapshot (s.accept i)) := by
  unfold issue
  rw [if_neg (by simp [h]), he]

/-- Everything presenting a command can do. -/
theorem issue_cases {i : Instr} {body : Snapshot → State → State} {s t : State}
    (h : issue i body s = .next t) :
    (s.busy = true ∧ t = s.recordError .cmdWhileBusy (encode i)) ∨
    (s.busy = false ∧ ∃ e, preconditionError i s = some e ∧
      t = ((s.accept i).recordError e.code e.info).finish) ∨
    (s.busy = false ∧ preconditionError i s = none ∧ t = body s.snapshot (s.accept i)) := by
  cases hb : s.busy with
  | true =>
    rw [issue_of_busy hb] at h
    exact .inl ⟨rfl, (Host.Outcome.next.inj h).symm⟩
  | false =>
    cases hp : preconditionError i s with
    | some e =>
      rw [issue_of_failed hb hp] at h
      exact .inr (.inl ⟨rfl, e, rfl, (Host.Outcome.next.inj h).symm⟩)
    | none =>
      rw [issue_of_accepted hb hp] at h
      exact .inr (.inr ⟨rfl, rfl, (Host.Outcome.next.inj h).symm⟩)

/-- The preconditions of a command are met exactly when the checks that apply to it hold
(40_control.md R126). -/
theorem preconditionError_eq_none_iff {i : Instr} {s : State} :
    preconditionError i s = none ↔
      (checksGeometry i = true → s.pixCount.toNat ≤ s.params.maxPixels) ∧
      (checksPalette i = true → s.palValid = true) := by
  unfold preconditionError
  rw [State.snapshot_n]
  cases checksGeometry i <;> cases checksPalette i <;> cases s.palValid <;>
    simp
  all_goals (split <;> first | omega | simp_all)

/-- The errors of acceptance: BAD_GEOM with N, or NO_PALETTE with 0 (60_exceptions.md R252). -/
theorem preconditionError_some {i : Instr} {s : State} {e : CmdError}
    (h : preconditionError i s = some e) :
    (checksGeometry i = true ∧ s.params.maxPixels < s.pixCount.toNat ∧
      e = ⟨.badGeom, s.pixCount⟩) ∨
    (checksPalette i = true ∧ s.palValid = false ∧ e = ⟨.noPalette, 0⟩) := by
  unfold preconditionError at h
  rw [State.snapshot_n] at h
  split at h
  · rename_i hg
    exact .inl ⟨hg.1, hg.2, (Option.some.inj h).symm⟩
  · split at h
    · rename_i hp
      exact .inr ⟨hp.1, hp.2, (Option.some.inj h).symm⟩
    · cases h

/-! ## The commands -/

/-- The body of each command: what it does between acceptance and completion. -/
def bodyOf : Instr → Snapshot → State → State
  | .nop => nopBody
  | .softReset => softResetBody
  | .train => trainPhase
  | .map => mapPhase
  | .transFind => transFindPhase
  | .compress => compressBody
  | .quantize => quantizeBody
  | .frame => frameBody

/-- Every command is presented in the same way (40_control.md R120). -/
theorem exec_eq_issue (i : Instr) (s : State) : exec i s = issue i (bodyOf i) s := by
  cases i <;> rfl

/-! ## Events and steps -/

theorem presentCommand_of_ok {v : Word} {i : Instr} (h : decode v = .ok i) (s : State) :
    presentCommand v s = exec i s := by
  unfold presentCommand
  rw [h]

theorem presentCommand_of_error {v : Word} {e : DecodeError} (h : decode v = .error e)
    (s : State) :
    presentCommand v s =
      .next (if s.busy then s.recordError .cmdWhileBusy v else s.recordError .badOpcode v) := by
  unfold presentCommand
  rw [h]

@[simp] theorem serve_read (a : BitVec 26) (s : State) :
    serve (.read a) s = .next (hostRead a s) := rfl

@[simp] theorem serve_complete (s : State) : serve .complete s = .next s.complete := rfl

@[simp] theorem serve_reset (s : State) : serve .reset s = .next (resetInput s) := rfl

theorem serve_write_cmd (v : Word) (s : State) :
    serve (.write cmdOffset v) s = presentCommand v (s.respond .okay 0) := by
  simp [serve]

theorem serve_write_other {a : BitVec 26} (h : a ≠ cmdOffset) (v : Word) (s : State) :
    serve (.write a v) s = .next (hostWrite a v s) := by
  simp [serve, h]

theorem step_of_nil {s : State} (h : s.inputs = []) : step s = .next s.complete := by
  unfold step
  rw [h]
  rfl

theorem step_of_cons {s : State} {e : Event} {es : List Event} (h : s.inputs = e :: es) :
    step s = serve e (s.setInputs es) := by
  unfold step
  rw [h]

/-- Everything a write to CMD can do. -/
theorem presentCommand_cases {v : Word} {s t : State} (h : presentCommand v s = .next t) :
    (∃ i, decode v = .ok i ∧ exec i s = .next t) ∨
    (∃ e, decode v = .error e ∧
      ((s.busy = true ∧ t = s.recordError .cmdWhileBusy v) ∨
       (s.busy = false ∧ t = s.recordError .badOpcode v))) := by
  cases hd : decode v with
  | ok i => exact .inl ⟨i, rfl, by rwa [presentCommand_of_ok hd] at h⟩
  | error e =>
    rw [presentCommand_of_error hd] at h
    refine .inr ⟨e, rfl, ?_⟩
    cases hb : s.busy <;> rw [hb] at h <;> simpa using h.symm

/-- Everything a step can do. -/
theorem step_cases {s t : State} (h : step s = .next t) :
    (s.inputs = [] ∧ t = s.complete) ∨
    ∃ e rest, s.inputs = e :: rest ∧
      ((∃ a, e = .read a ∧ t = hostRead a (s.setInputs rest)) ∨
       (∃ a v, e = .write a v ∧ a ≠ cmdOffset ∧ t = hostWrite a v (s.setInputs rest)) ∨
       (∃ v, e = .write cmdOffset v ∧
         presentCommand v ((s.setInputs rest).respond .okay 0) = .next t) ∨
       (e = .complete ∧ t = (s.setInputs rest).complete) ∨
       (e = .reset ∧ t = resetInput (s.setInputs rest))) := by
  cases hi : s.inputs with
  | nil =>
    rw [step_of_nil hi] at h
    exact .inl ⟨rfl, (Host.Outcome.next.inj h).symm⟩
  | cons e rest =>
    rw [step_of_cons hi] at h
    refine .inr ⟨e, rest, rfl, ?_⟩
    cases e with
    | read a => exact .inl ⟨a, rfl, (Host.Outcome.next.inj h).symm⟩
    | complete =>
      exact .inr (.inr (.inr (.inl ⟨rfl, (Host.Outcome.next.inj h).symm⟩)))
    | reset => exact .inr (.inr (.inr (.inr ⟨rfl, (Host.Outcome.next.inj h).symm⟩)))
    | write a v =>
      by_cases ha : a = cmdOffset
      · subst ha
        rw [serve_write_cmd] at h
        exact .inr (.inr (.inl ⟨v, rfl, h⟩))
      · rw [serve_write_other ha] at h
        exact .inr (.inl ⟨a, v, rfl, ha, (Host.Outcome.next.inj h).symm⟩)

end Sys2Proof.Machine
end

