-- ==== Sys2Proof/Laws/Mapping.lean ====
section
/-! SUPPORT. The searches of MAP and TRANS_FIND stay within the palette, and the used-entries set holds exactly the assigned indices (42_mapper.md). -/

namespace Sys2Proof.Machine

/-- The loop of `nearest` answers the best so far or an entry it has passed. -/
theorem nearestLoop_range (p : RGB) (es : List RGB) : ∀ k best bestd,
    nearestLoop p k best bestd es = best ∨
      (k ≤ nearestLoop p k best bestd es ∧ nearestLoop p k best bestd es < k + es.length) := by
  induction es with
  | nil => intros; exact .inl rfl
  | cons e es ih =>
    intro k best bestd
    unfold nearestLoop
    simp only [List.length_cons]
    split
    · rcases ih (k + 1) k (dist1 p e) with h | h
      · exact .inr (by omega)
      · exact .inr (by omega)
    · rcases ih (k + 1) best bestd with h | h
      · exact .inl h
      · exact .inr (by omega)

/-- MAP's index is a palette position. -/
theorem nearest_lt (p : RGB) {pal : List RGB} (h : 0 < pal.length) : nearest p pal < pal.length := by
  cases pal with
  | nil => simp at h
  | cons e es =>
    simp only [nearest, List.length_cons]
    rcases nearestLoop_range p es 1 0 (dist1 p e) with h | h <;> omega

theorem transFindLoop_range (t : RGB) (u : BitVec 256) (es : List RGB) : ∀ k best dmin,
    transFindLoop t u k best dmin es = best ∨
      (k ≤ transFindLoop t u k best dmin es ∧
        transFindLoop t u k best dmin es < k + es.length) := by
  induction es with
  | nil => intros; exact .inl rfl
  | cons e es ih =>
    intro k best dmin
    unfold transFindLoop
    simp only [List.length_cons]
    split
    · rcases ih (k + 1) k (dist2 t e) with h | h
      · exact .inr (by omega)
      · exact .inr (by omega)
    · rcases ih (k + 1) best dmin with h | h
      · exact .inl h
      · exact .inr (by omega)

/-- TRANS_FIND's result is a palette position. -/
theorem transFind_lt (t : RGB) (u : BitVec 256) {pal : List RGB} (h : 0 < pal.length) :
    transFind t u pal < pal.length := by
  unfold transFind
  rcases transFindLoop_range t u pal 0 0 (2 ^ 24) with h | h <;> omega

@[simp] theorem mappedIndices_length (m : Memory) (n : Nat) :
    (mappedIndices m n).length = n := by simp [mappedIndices]

theorem mappedIndex_toNat (m : Memory) (i : Nat) :
    (mappedIndex m i).toNat = nearest (m.pixel i) m.palette := by
  have h := nearest_lt (m.pixel i) (pal := m.palette) (by simp)
  rw [Memory.palette_length] at h
  simp only [mappedIndex, BitVec.toNat_ofNat]
  omega

theorem usedOf_foldl_getLsbD (ks : List Byte) : ∀ (u : BitVec 256) (k : Nat),
    (ks.foldl (fun u k => u ||| 1#256 <<< k.toNat) u).getLsbD k = true ↔
      u.getLsbD k = true ∨ ∃ b ∈ ks, b.toNat = k := by
  induction ks with
  | nil => simp
  | cons b ks ih =>
    intro u k
    have hb := b.isLt
    simp only [List.foldl_cons, ih, BitVec.getLsbD_or, BitVec.getLsbD_shiftLeft,
      BitVec.getLsbD_one, Bool.or_eq_true, Bool.and_eq_true, decide_eq_true_eq,
      Bool.not_eq_true', decide_eq_false_iff_not, List.mem_cons, exists_eq_or_imp, or_assoc]
    refine or_congr_right (or_congr_left ⟨fun h => by omega, fun h => ?_⟩)
    subst h
    omega

/-- USED[k] is 1 exactly when k is one of the assigned indices (10_state.md R49). -/
theorem usedOf_getLsbD (ks : List Byte) (k : Nat) :
    (usedOf ks).getLsbD k = true ↔ ∃ b ∈ ks, b.toNat = k := by
  unfold usedOf
  rw [usedOf_foldl_getLsbD]
  simp

end Sys2Proof.Machine
end

