-- ==== Sys2Proof/Laws/PerInstr.lean ====
section
/-! SUPPORT. A statement about every command as syntax: its row of the opcode map (30_encoding.md R91). -/

namespace Sys2Proof.Laws.OpcodeRow

/-- The command is well formed, its word is its opcode with RSVD 0, no other command has that word,
and the decoder reads the word as the command (30_encoding.md R90, R91). -/
def Statement (i : Instr) : Prop :=
  i.wf = true ∧ CmdWord.wf (encode i) = true ∧ (encode i).toNat = i.op.toNat ∧ i.op.toNat < 8 ∧
  decode (encode i) = .ok i ∧ ∀ j, encode j = encode i → j = i

/-- One proof for every row: all of it is computation, by the other command. -/
theorem statement_of (i : Instr)
    (h : i.wf = true ∧ CmdWord.wf (encode i) = true ∧ (encode i).toNat = i.op.toNat ∧
      i.op.toNat < 8 ∧ decode (encode i) = .ok i) : Statement i := by
  obtain ⟨h1, h2, h3, h4, h5⟩ := h
  refine ⟨h1, h2, h3, h4, h5, fun j hj => ?_⟩
  have hd : decode (encode j) = .ok j := by cases j <;> rfl
  rw [hj, h5] at hd
  cases hd
  rfl

theorem nop : Statement .nop := statement_of _ (by decide)
theorem softReset : Statement .softReset := statement_of _ (by decide)
theorem train : Statement .train := statement_of _ (by decide)
theorem map : Statement .map := statement_of _ (by decide)
theorem transFind : Statement .transFind := statement_of _ (by decide)
theorem compress : Statement .compress := statement_of _ (by decide)
theorem quantize : Statement .quantize := statement_of _ (by decide)
theorem frame : Statement .frame := statement_of _ (by decide)

end Sys2Proof.Laws.OpcodeRow
end

