-- ==== Sys2Proof/Laws/Training.lean ====
section
/-! SUPPORT. Training keeps the network at 256 neurons, so the frozen palette has 256 entries (41_quantizer.md R155). -/

namespace Sys2Proof.Machine

@[simp] theorem initNetwork_length : initNetwork.length = 256 := by simp [initNetwork, netSize]

@[simp] theorem contest_length (x : Sample) (net : List Neuron) :
    (contest x net).1.length = net.length := by simp [contest]

@[simp] theorem alterSingle_length (a : I32) (j : Int) (x : Sample) (net : List Neuron) :
    (alterSingle a j x net).length = net.length := by simp [alterSingle]

@[simp] theorem alterNeighLoop_length (rp : List I32) (x : Sample) (lo hi : Int) (fuel : Nat) :
    ∀ (aHi aLo : Int) (m : Nat) (net : List Neuron),
      (alterNeighLoop rp x lo hi fuel aHi aLo m net).length = net.length := by
  induction fuel with
  | zero => intros; rfl
  | succ fuel ih =>
    intro aHi aLo m net
    unfold alterNeighLoop
    split
    · rw [ih]
      split <;> split <;> simp
    · rfl

@[simp] theorem alterNeigh_length (rp : List I32) (rad : I32) (j : Int) (x : Sample)
    (net : List Neuron) : (alterNeigh rp rad j x net).length = net.length := by
  simp [alterNeigh]

@[simp] theorem learnSample_length (x : Sample) (t : Training) :
    (learnSample x t).length = t.net.length := by
  unfold learnSample
  dsimp only
  split <;> simp

@[simp] theorem decay_net (t : Training) : (decay t).net = t.net := rfl
@[simp] theorem decay_samplefac (t : Training) : (decay t).samplefac = t.samplefac := rfl
@[simp] theorem decay_alphadec (t : Training) : (decay t).alphadec = t.alphadec := rfl
@[simp] theorem decay_samplepixels (t : Training) : (decay t).samplepixels = t.samplepixels := rfl
@[simp] theorem decay_delta (t : Training) : (decay t).delta = t.delta := rfl
@[simp] theorem decay_step (t : Training) : (decay t).step = t.step := rfl
@[simp] theorem decay_pos (t : Training) : (decay t).pos = t.pos := rfl
@[simp] theorem decay_i (t : Training) : (decay t).i = t.i := rfl

@[simp] theorem learnSchedule_net (t : Training) : (learnSchedule t).net = t.net := by
  unfold learnSchedule
  split <;> rfl

/-- The schedule runs exactly when the count is a multiple of delta (41_quantizer.md R148). -/
theorem learnSchedule_of_due {t : Training} (h : t.i.srem t.delta = 0) :
    learnSchedule t = decay t := if_pos h

theorem learnSchedule_of_not_due {t : Training} (h : t.i.srem t.delta ≠ 0) :
    learnSchedule t = t := if_neg h

@[simp] theorem learnSchedule_samplefac (t : Training) : (learnSchedule t).samplefac = t.samplefac := by
  unfold learnSchedule; split <;> rfl
@[simp] theorem learnSchedule_alphadec (t : Training) : (learnSchedule t).alphadec = t.alphadec := by
  unfold learnSchedule; split <;> rfl
@[simp] theorem learnSchedule_samplepixels (t : Training) : (learnSchedule t).samplepixels = t.samplepixels := by
  unfold learnSchedule; split <;> rfl
@[simp] theorem learnSchedule_delta (t : Training) : (learnSchedule t).delta = t.delta := by
  unfold learnSchedule; split <;> rfl
@[simp] theorem learnSchedule_step (t : Training) : (learnSchedule t).step = t.step := by
  unfold learnSchedule; split <;> rfl
@[simp] theorem learnSchedule_pos (t : Training) : (learnSchedule t).pos = t.pos := by
  unfold learnSchedule; split <;> rfl
@[simp] theorem learnSchedule_i (t : Training) : (learnSchedule t).i = t.i := by
  unfold learnSchedule; split <;> rfl

/-- A weight below rad is written, every other stays (41_quantizer.md R146). -/
theorem setRadpower_getElem? (alpha rad : I32) (old : List I32) (k : Nat) :
    (setRadpower alpha rad old)[k]? =
      if k < rad.toInt.toNat then some (radWeight alpha rad (BitVec.ofNat 32 k)) else old[k]? := by
  unfold setRadpower
  by_cases h : k < rad.toInt.toNat
  · rw [if_pos h, List.getElem?_append_left (by simpa using h)]
    simp [h]
  · rw [if_neg h, List.getElem?_append_right (by simpa using h), List.getElem?_drop]
    congr 1
    simp only [List.length_map, List.length_range]
    omega

theorem setRadpower_length {rad : I32} {old : List I32} (h : rad.toInt.toNat ≤ old.length)
    (alpha : I32) : (setRadpower alpha rad old).length = old.length := by
  simp only [setRadpower, List.length_append, List.length_map, List.length_range,
    List.length_drop]
  omega

/-- One pass of the loop, read at the network: only the sample moves it. -/
theorem learnPass_net (pix : Nat → RGB) (n : I32) (t : Training) :
    (learnPass pix n t).net = learnSample (sampleOf (pix t.pos.toNat)) t := by
  simp [learnPass, learnAdvance]

theorem learnPasses_net_length (pix : Nat → RGB) (n : I32) (k : Nat) :
    ∀ t : Training, (learnPasses pix n k t).net.length = t.net.length := by
  induction k with
  | zero => intros; rfl
  | succ k ih =>
    intro t
    unfold learnPasses
    rw [ih, learnPass_net, learnSample_length]

/-- The trained network has 256 neurons (41_quantizer.md R141). -/
@[simp] theorem learn_net_length (pix : Nat → RGB) (n q : I32) :
    (learn pix n q).net.length = 256 := by
  unfold learn
  dsimp only
  rw [learnPasses_net_length]
  exact initNetwork_length

/-- The frozen palette has 256 entries (41_quantizer.md R155, property 2). -/
@[simp] theorem paletteOf_length (pix : Nat → RGB) (n q : I32) :
    (paletteOf (learn pix n q)).length = 256 := by simp [paletteOf]

@[simp] theorem paletteOf_trainingOf_length (c : Snapshot) (s : State) :
    (paletteOf (trainingOf c s)).length = 256 := by simp [trainingOf]

end Sys2Proof.Machine
end

