-- ==== Sys2Proof/Tests/Slice0.lean ====
section
/-! SUPPORT. The model's own tests, with expected values from spec/95_test_vectors.md and the examples of the rules, and for every statement with hypotheses a witness that meets them together. -/

namespace Sys2Proof.Tests

open Sys2Proof.Machine

/-! ## Helpers -/

/-- The next state, where the outcome is one. -/
def nextOf : Host.Outcome State Fault Refusal → Option State
  | .next s => some s
  | .fault _ => none
  | .refused _ => none

/-- What the host sees of the last access and of STATUS, ERRCODE and ERRINFO. -/
def statusOf (o : Host.Outcome State Fault Refusal) : Option (Word × ErrCode × Word) :=
  (nextOf o).map fun t => (t.statusWord, t.errCode, t.errInfo)

/-- The same after the completion transition. -/
def completedStatus (o : Host.Outcome State Fault Refusal) : Option (Word × ErrCode × Word) :=
  (nextOf o).map fun t => (t.complete.statusWord, t.complete.errCode, t.complete.errInfo)

/-- The bytes OUT[0..OUT_LEN-1]. -/
def outputOf (o : Host.Outcome State Fault Refusal) : Option (List Byte) :=
  (nextOf o).map fun t => (List.range t.outLen.toNat).map t.mem.outByte

/-- The answer to a host read. -/
def readAt (a : BitVec 26) (s : State) : Option Response := (hostRead a s).resp

/-- A frame of w x 1 pixels with the indices and depth given, and room for 64 output bytes. -/
def frameOf (w : BitVec 16) (depth : BitVec 4) (idx : List Byte) : State :=
  { State.reset with
    params := ⟨8, 64⟩, width := w, height := 1, palBits := depth
    mem := State.reset.mem.writeBytes (idxAddr 0) idx }

/-- The set-up of 95_test_vectors.md P5 before its first command: entry 1 is red, both pixels are
red, and TRANS_RGB is (250, 0, 0). -/
def p5 : State :=
  { State.reset with
    width := 2, height := 1, palValid := true, transRgb := ⟨250, 0, 0⟩
    mem := ((State.reset.mem.writeColour (palAddr 1) ⟨255, 0, 0⟩).writeColour (pixAddr 0)
      ⟨255, 0, 0⟩).writeColour (pixAddr 1) ⟨255, 0, 0⟩ }

/-- A COMPRESS of one index under way. -/
def busyState (error : Option CmdError) : State :=
  let s := frameOf 1 2 [0]
  { s with curOp := 5, running := some ⟨s.snapshot, none, none, error⟩ }

/-- A state with given events to come. -/
def withInputs (es : List Event) (s : State) : State := { s with inputs := es }

/-- The grey ramp, PAL[k] = (k, k, k). -/
def ramp : List RGB :=
  (List.range 256).map fun k => ⟨BitVec.ofNat 8 k, BitVec.ofNat 8 k, BitVec.ofNat 8 k⟩

/-! ## WellFormed: each check refuses an ill-formed word (30_encoding.md R92) -/

theorem test_wf_refuses_reserved_bits : CmdWord.reservedClear 0x00000010 = false := by decide
theorem test_wf_refuses_reserved_opcode : CmdWord.opcodeDefined 0x00000008 = false := by decide
theorem test_wf_refuses_both :
    CmdWord.wf 0x00000010 = false ∧ CmdWord.wf 0x00000008 = false ∧
    CmdWord.wf 0xFFFFFFF2 = false ∧ CmdWord.wf 0x0000000F = false := by decide
theorem test_wf_accepts : CmdWord.wf 0x00000007 = true := by decide

/-! ## Decode: RSVD = 0 in 28 bits, then OP in 4 bits, from the opcode map of 30_encoding.md R91 -/

theorem test_decode_nop :
    decode 0b00000000000000000000000000000000 = .ok .nop := by decide
theorem test_decode_softReset :
    decode 0b00000000000000000000000000000001 = .ok .softReset := by decide
theorem test_decode_train :
    decode 0b00000000000000000000000000000010 = .ok .train := by decide
theorem test_decode_map :
    decode 0b00000000000000000000000000000011 = .ok .map := by decide
theorem test_decode_transFind :
    decode 0b00000000000000000000000000000100 = .ok .transFind := by decide
theorem test_decode_compress :
    decode 0b00000000000000000000000000000101 = .ok .compress := by decide
theorem test_decode_quantize :
    decode 0b00000000000000000000000000000110 = .ok .quantize := by decide
theorem test_decode_frame :
    decode 0b00000000000000000000000000000111 = .ok .frame := by decide
theorem test_decode_reserved :
    decode 0b00000000000000000000000000001000 = .error .reservedOpcode ∧
    decode 0b10000000000000000000000000000010 = .error .reservedBits := by decide
theorem test_decodeTableWord :
    decodeTableWord 32 0x00000006 = some .quantize ∧ decodeTableWord 32 0x00000016 = none ∧
    decodeTableWord 4 0x6 = some .quantize := by decide

/-! ## Commands: at most two tests each -/

/-- R127, V10. -/
theorem test_nop_from_reset : statusOf (exec .nop State.reset) = some (0x00000002, .none, 0) := by
  decide
/-- V11. -/
theorem test_nop_raises_irq :
    statusOf (exec .nop { State.reset with doneIe := true }) = some (0x00000022, .none, 0) := by
  decide

/-- R128, V22. -/
theorem test_softReset_quality :
    (nextOf (exec .softReset { p5 with quality := 3 })).map
      (fun t => (t.quality, t.mem.palEntry 1, t.statusWord)) = some (10, ⟨0, 0, 0⟩, 0) := by
  decide
/-- P5 step 18: PIXMEM is kept. -/
theorem test_softReset_keeps_pixels :
    (nextOf (exec .softReset p5)).map (fun t => t.mem.pixel 0) = some ⟨255, 0, 0⟩ := by decide

/-- V16: 321 x 240 is too large. -/
theorem test_train_bad_geom :
    statusOf (exec .train { State.reset with width := 321 }) =
      some (0x00000206, .badGeom, 0x00012CF0) := by decide
/-- T2: one black pixel moves entry 20 to (7, 7, 7), entry 31 to (29, 29, 29), and leaves 32. -/
theorem test_learn_black_pixel :
    let pal := paletteOf (learn (fun _ => ⟨0, 0, 0⟩) 1 10)
    (pal[20]?, pal[31]?, pal[32]?) =
      (some ⟨7, 7, 7⟩, some ⟨29, 29, 29⟩, some ⟨32, 32, 32⟩) := by decide +kernel

/-- P5 step 8: both pixels go to entry 1. -/
theorem test_map_p5 :
    (nextOf (exec .map p5)).map (fun t => (t.mem.indices 2, t.used)) = some ([1, 1], 2) := by
  decide +kernel
/-- V14. -/
theorem test_map_no_palette :
    statusOf (exec .map State.reset) = some (0x00000306, .noPalette, 0) := by decide

/-- P5 step 6: no entry is used. -/
theorem test_transFind_unused :
    (nextOf (exec .transFind { p5 with transIndex := 9 })).map (fun t => t.transIndex) =
      some 0 := by decide +kernel
/-- P5 step 10: entry 1 is the only one used. -/
theorem test_transFind_used :
    (nextOf (exec .transFind { p5 with used := 2 })).map (fun t => t.transIndex) = some 1 := by
  decide +kernel

/-- L2: the EOI is 4 bits wide. -/
theorem test_compress_l2 :
    outputOf (exec .compress (frameOf 4 2 [0, 0, 0, 0])) =
      some [0x02, 0x02, 0x84, 0x51, 0x00] := by decide +kernel
/-- LE1: index 5 at position 1 is out of range for m = 2. -/
theorem test_compress_index_range :
    completedStatus (exec .compress (frameOf 2 2 [0, 5])) =
      some (0x00000506, .indexRange, 1) := by decide +kernel

/-- V17. -/
theorem test_quantize_bad_geom :
    statusOf (exec .quantize { State.reset with width := 321 }) =
      some (0x00000606, .badGeom, 0x00012CF0) := by decide
/-- R240 on T2: the black pixel maps to entry 0 of its own trained palette. -/
theorem test_quantize_black_pixel :
    nearest ⟨0, 0, 0⟩ (paletteOf (learn (fun _ => ⟨0, 0, 0⟩) 1 10)) = 0 := by decide +kernel

/-- V17. -/
theorem test_frame_bad_geom :
    statusOf (exec .frame { State.reset with width := 321 }) =
      some (0x00000706, .badGeom, 0x00012CF0) := by decide
/-- R241's example stream, L9: sixteen indices 0 at depth 8. -/
theorem test_frame_stream :
    lzwStream 8 (List.replicate 16 0) =
      [0x08, 0x09, 0x00, 0x01, 0x08, 0x1C, 0x48, 0xB0, 0x20, 0x80, 0x80, 0x00] := by
  decide +kernel

/-! ## Functions -/

/-- T1: no sample is taken. -/
theorem test_learn_no_sample :
    paletteOf (learn (fun _ => ⟨200, 10, 30⟩) 503 1000) = ramp := by decide +kernel
/-- T7: N = 600 and Q = 10 give samplefac 10, samplepixels 60 and step 499. -/
theorem test_training_parameters :
    let t := trainingStart 600 10
    (t.samplefac, t.samplepixels, t.step) = (10, 60, 499) := by decide
/-- M1, M5, M6. -/
theorem test_nearest :
    nearest ⟨10, 20, 30⟩ ramp = 20 ∧ nearest ⟨0, 128, 255⟩ ramp = 128 ∧
    nearest ⟨1, 0, 0⟩ [⟨0, 0, 0⟩, ⟨2, 0, 0⟩, ⟨255, 255, 255⟩] = 0 := by decide +kernel
/-- M8b, M8d. -/
theorem test_transFind :
    transFind ⟨120, 120, 120⟩ (usedOf [3, 200]) ramp = 200 ∧
    transFind ⟨11, 11, 11⟩ (usedOf [10, 12]) ramp = 10 := by decide +kernel
/-- M9: the two metrics disagree. -/
theorem test_metrics_disagree :
    nearest ⟨0, 0, 0⟩ [⟨6, 0, 0⟩, ⟨4, 4, 0⟩, ⟨255, 255, 255⟩] = 0 ∧
    transFind ⟨0, 0, 0⟩ 3 [⟨6, 0, 0⟩, ⟨4, 4, 0⟩, ⟨255, 255, 255⟩] = 1 := by decide
/-- L4, L5, L8. -/
theorem test_lzw_small :
    lzwStream 2 [1, 0, 1, 0] = [0x02, 0x02, 0x0C, 0x5C, 0x00] ∧
    lzwStream 8 [255] = [0x08, 0x04, 0x00, 0xFF, 0x05, 0x04, 0x00] ∧
    lzwStream 3 (List.replicate 16 7) = [0x03, 0x04, 0x78, 0xBA, 0xDC, 0x97, 0x00] := by
  decide +kernel
/-- The codes and widths of L2. -/
theorem test_codes_l2 :
    widthCodes 2 [0, 0, 0, 0] = [(4, 3), (0, 3), (6, 3), (0, 3), (5, 4)] := by decide
/-- The decoder on L4. -/
theorem test_decoder_l4 : gifDecode [0x02, 0x02, 0x0C, 0x5C, 0x00] = some [1, 0, 1, 0] := by
  decide +kernel
/-- V-BOUND. -/
theorem test_out_bound : outBound 1 = 8 ∧ outBound 16 = 30 ∧ outBound 76800 = 115689 := by decide

/-! ## The host's accesses -/

/-- V3 and V5: the written dimensions and depth are legalised. -/
theorem test_write_legal :
    readAt 0x020 (hostWrite 0x020 0x00030000 State.reset) = some ⟨.okay, 0x00030140⟩ ∧
    readAt 0x038 (hostWrite 0x020 0xFFFFFFFF State.reset) = some ⟨.okay, 0xFFFE0001⟩ ∧
    readAt 0x024 (hostWrite 0x024 0xFFFF0000 State.reset) = some ⟨.okay, 1⟩ ∧
    readAt 0x028 (hostWrite 0x028 0x00000009 State.reset) = some ⟨.okay, 8⟩ ∧
    readAt 0x004 (hostWrite 0x004 0xFFFFFFFF State.reset) = some ⟨.okay, 7⟩ := by decide
/-- V18. -/
theorem test_palette_window :
    readAt 0x101C (hostWrite 0x101C 0xAB010203 State.reset) = some ⟨.okay, 0x00010203⟩ ∧
    readAt 0x008 (hostWrite 0x101C 0xAB010203 State.reset) = some ⟨.okay, 8⟩ := by decide
/-- V20: bus errors at both ends of the windows. -/
theorem test_bus_errors :
    readAt 0x002 State.reset = some ⟨.slverr, 0⟩ ∧ readAt 0x018 State.reset = some ⟨.slverr, 0⟩ ∧
    readAt 0x1400 State.reset = some ⟨.slverr, 0⟩ ∧
    readAt 0x104B000 State.reset = some ⟨.slverr, 0⟩ ∧
    readAt 0x2012C00 State.reset = some ⟨.slverr, 0⟩ ∧
    readAt 0x301C3EC State.reset = some ⟨.slverr, 0⟩ ∧
    (hostWrite 0x3000000 0 State.reset).resp = some ⟨.slverr, 0⟩ := by decide
/-- V12 and V13: a rejected word. -/
theorem test_bad_opcode :
    statusOf (presentCommand 0x00000008 State.reset) = some (0x00000004, .badOpcode, 8) ∧
    statusOf (presentCommand 0xFFFFFFF2 State.reset) =
      some (0x00000004, .badOpcode, 0xFFFFFFF2) := by decide
/-- V23 to V25: a running command rejects a NOP and window accesses, and takes a QUALITY write. -/
theorem test_while_busy :
    (nextOf (presentCommand 0 (busyState none))).map (fun t => (t.busy, t.err, t.errCode)) =
      some (true, true, .cmdWhileBusy) ∧
    readAt 0x1000 (busyState none) = some ⟨.slverr, 0⟩ ∧
    hostWrite 0x1000000 0x00FFFFFF (busyState none) =
      (busyState none).respond .slverr 0 ∧
    readAt 0x024 (hostWrite 0x024 0x20 (busyState none)) = some ⟨.okay, 0x20⟩ := by decide
/-- 60_exceptions.md R251: the code numbers. -/
theorem test_error_codes :
    [ErrCode.none, .cmdWhileBusy, .badOpcode, .badGeom, .noPalette, .indexRange, .outOverflow].map
      ErrCode.code = [0, 1, 2, 3, 4, 5, 6] := by decide

/-! ## Steps -/

/-- The first step after reset runs the word put there. -/
theorem test_first_step :
    statusOf (step (State.reset.withFetchWord 32 0)) = some (0x00000002, .none, 0) ∧
    statusOf (step (State.reset.withFetchWord 32 3)) = some (0x00000306, .noPalette, 0) := by
  decide
theorem test_reset_memory_wf : State.reset.mem.wf := by decide
/-- The cells of a colour write are listed by rising address, and a reset value is not listed. -/
theorem test_memory_canonical :
    ((State.reset.mem.writeColour (palAddr 1) ⟨1, 0, 3⟩).cells = [(0x1004, 3), (0x1006, 1)]) ∧
    (((State.reset.mem.writeColour (palAddr 1) ⟨1, 0, 3⟩).writeColour (palAddr 1)
      ⟨0, 0, 0⟩).cells = []) := by decide

/-! ## Witnesses: for each statement with hypotheses, states and operands that meet them together

Where a statement has several clauses there is a witness for each, at a boundary of its range. -/

/-- One pixel, index 3, depth 2, the least capacities that meet the bound of 00_scope.md R9. -/
def inRangeState : State := { frameOf 1 2 [3] with params := ⟨1, 8⟩ }

/-- One pixel, index 4, depth 2, the least capacities that meet the bound of 00_scope.md R9. -/
def rangeState : State := { frameOf 1 2 [4] with params := ⟨1, 8⟩ }

theorem inv_of_small {s : State} (hp : s.params = ⟨8, 64⟩ ∨ s.params = ⟨1, 8⟩)
    (hg : s.width ≠ 0 ∧ s.height ≠ 0) (hq : s.quality ≠ 0)
    (hb : 1 ≤ s.palBits.toNat ∧ s.palBits.toNat ≤ 8) (hm : s.mem.wf)
    (hc : s.mem.inBounds s.params) (ho : s.outLen = 0)
    (he : s.err = false ∧ s.errCode = .none ∧ s.errInfo = 0)
    (hr : ∀ r, s.running = some r → s.done = false ∧
      (2 ≤ s.curOp.toNat ∧ s.curOp.toNat ≤ 7) ∧ ∀ e, r.error = some e → e.code ≠ .none)
    (hd : s.mem.tag < s.free ∧ s.mem.outTag < s.free) : s.Inv where
  capacities := by rcases hp with h | h <;> rw [h] <;> decide
  geometry := hg
  quality := hq
  palBits := hb
  memory := hm
  bounds := hc
  output := ⟨fun _ => ho, by simp [ho]⟩
  record := ⟨by simp [he.1, he.2.1], fun _ => he.2.2⟩
  running := hr
  draws := hd

theorem busyState_inv : (withInputs [.complete] (busyState none)).Inv := by
  refine inv_of_small (.inl rfl) (by decide) (by decide) (by decide) (by decide) (by decide) rfl
    ⟨rfl, rfl, rfl⟩ ?_ (by decide)
  intro r hr
  cases hr
  exact ⟨rfl, by decide, by intro e he; cases he⟩

theorem rangeState_inv : rangeState.Inv :=
  inv_of_small (.inr rfl) (by decide) (by decide) (by decide) (by decide) (by decide) rfl
    ⟨rfl, rfl, rfl⟩ (by intro r hr; cases hr) (by decide)

theorem inRangeState_inv : inRangeState.Inv :=
  inv_of_small (.inr rfl) (by decide) (by decide) (by decide) (by decide) (by decide) rfl
    ⟨rfl, rfl, rfl⟩ (by intro r hr; cases hr) (by decide)

theorem witness_DecodeOfEncode : Instr.nop.wf = true ∧ Instr.frame.wf = true := by decide

theorem witness_StepRunsTheWrittenCommand :
    (∃ (s : State) (v : Word) (i : Instr) (rest : List Event), s.inputs = .write 0x00C v :: rest ∧ decode v = .ok i) ∧
    (∃ (w : Nat) (i : Instr), decodeTableWord 32 w = some i) :=
  ⟨⟨withInputs [.write 0x00C 7, .complete] p5, 7, .frame, [.complete], rfl, by decide⟩,
    7, .frame, by decide⟩

theorem witness_StepServesTheFirstEvent :
    (∃ (s : State) (a : BitVec 26), s.inputs = .read a :: []) ∧
    (∃ (s : State) (a : BitVec 26) (v : Word), a ≠ 0x00C ∧ s.inputs = .write a v :: []) ∧
    (∃ s : State, s.inputs = .complete :: []) ∧ (∃ s : State, s.inputs = .reset :: []) ∧
    (∃ s : State, s.inputs = []) :=
  ⟨⟨withInputs [.read 0x008] p5, 0x008, rfl⟩,
    ⟨withInputs [.write 0x008 6] p5, 0x008, 6, by decide, rfl⟩,
    ⟨withInputs [.complete] p5, rfl⟩, ⟨withInputs [.reset] p5, rfl⟩, ⟨p5, rfl⟩⟩

theorem witness_StepKeepsInvariant : ∃ s t : State, s.Inv ∧ step s = .next t :=
  ⟨withInputs [.complete] (busyState none), _, busyState_inv, rfl⟩

theorem witness_RunningCommandCompletes :
    (withInputs [.read 0x008, .read 0x008] (busyState none)).busy = true := by decide

theorem witness_BusyPeriodBoundaries :
    (∃ s t : State, step s = .next t ∧ s.busy = false ∧ t.busy = true) ∧
    (∃ s t : State, step s = .next t ∧ s.busy = true ∧ t.busy = false ∧ s.inputs = []) ∧
    (∃ s t : State, step s = .next t ∧ s.busy = true ∧ t.busy = false ∧ s.inputs = [.complete]) ∧
    (∃ s t : State, step s = .next t ∧ s.busy = true ∧ t.busy = false ∧ s.inputs = [.reset]) :=
  ⟨⟨withInputs [.write 0x00C 4] p5, _, rfl, rfl, rfl⟩, ⟨busyState none, _, rfl, rfl, rfl, rfl⟩,
    ⟨withInputs [.complete] (busyState none), _, rfl, rfl, rfl, rfl⟩,
    ⟨withInputs [.reset] (busyState none), _, rfl, rfl, rfl, rfl⟩⟩

theorem witness_PaletteValidClearedOnlyByResets :
    (∃ s t : State, step s = .next t ∧ s.palValid = true ∧ t.palValid = false ∧
      s.inputs = [.reset]) ∧
    (∃ s t : State, step s = .next t ∧ s.palValid = true ∧ t.palValid = false ∧
      s.inputs = [.write 0x00C 1]) :=
  ⟨⟨withInputs [.reset] p5, _, rfl, rfl, rfl, rfl⟩,
    ⟨withInputs [.write 0x00C 1] p5, _, rfl, rfl, rfl, rfl⟩⟩

theorem witness_UsedChangesOnlyByItsWriters :
    (∃ s t : State, step s = .next t ∧ t.used ≠ s.used ∧ s.inputs = [.reset]) ∧
    (∃ s t : State, step s = .next t ∧ t.used ≠ s.used ∧ s.inputs = [.write 0x00C 1]) ∧
    (∃ s t : State, step s = .next t ∧ t.used ≠ s.used ∧ s.inputs = [.write 0x00C 3]) :=
  ⟨⟨withInputs [.reset] { p5 with used := 2 }, _, rfl, by decide, rfl⟩,
    ⟨withInputs [.write 0x00C 1] { p5 with used := 2 }, _, rfl, by decide, rfl⟩,
    ⟨withInputs [.write 0x00C 3] p5, _, rfl, by decide +kernel, rfl⟩⟩

theorem witness_CapacitiesNeverChange : ∃ s t : State, step s = .next t :=
  ⟨withInputs [.write 0x00C 5] (frameOf 1 2 [0]), _, rfl⟩

theorem witness_CommandsKeepPixelsAndConfiguration :
    (∃ t, exec .compress (frameOf 1 2 [0]) = .next t) ∧ (∃ t, exec .softReset p5 = .next t) ∧
    2 ^ 22 - 1 < 2 ^ 22 := ⟨⟨_, rfl⟩, ⟨_, rfl⟩, by decide⟩

theorem witness_CmdWriteProcessing :
    (∃ s : State, s.inputs = [.write 0x00C 8] ∧ s.busy = true) ∧
    (∃ s : State, s.inputs = [.write 0x00C 8] ∧ s.busy = false ∧ 8 ≤ (8 : Word).toNat % 16) ∧
    (∃ s : State, s.inputs = [.write 0x00C 0x10] ∧ s.busy = false ∧
      (0x10 : Word).toNat / 16 ≠ 0) ∧
    (∃ s : State, s.inputs = [.write 0x00C 7] ∧ s.busy = false ∧ (7 : Word).toNat / 16 = 0 ∧
      (7 : Word).toNat % 16 < 8) :=
  ⟨⟨withInputs [.write 0x00C 8] (busyState none), rfl, rfl⟩,
    ⟨withInputs [.write 0x00C 8] p5, rfl, rfl, by decide⟩,
    ⟨withInputs [.write 0x00C 0x10] p5, rfl, rfl, by decide⟩,
    ⟨withInputs [.write 0x00C 7] p5, rfl, rfl, by decide, by decide⟩⟩

theorem witness_FailedPreconditionChangesOnlyStatus :
    (∃ s : State, s.busy = false ∧ pixels s = s.params.maxPixels + 1) ∧
    (∃ s : State, s.busy = false ∧ pixels s = s.params.maxPixels ∧ s.palValid = false) :=
  ⟨⟨frameOf 9 2 [], by decide⟩, frameOf 8 2 [], by decide⟩

theorem witness_StatusWriteOneToClear :
    ∃ (s : State) (rest : List Event), s.inputs = .write 0x008 6 :: rest :=
  ⟨withInputs [.write 0x008 6] (busyState none), [], rfl⟩

theorem witness_LastErrorWins :
    (∃ (s : State) (r : Running) (e : CmdError), s.running = some r ∧ r.error = some e ∧
      s.inputs = [.write 0x00C 0, .complete]) ∧
    (∃ (s : State) (r : Running), s.running = some r ∧ r.error = none ∧
      s.inputs = [.write 0x00C 0, .complete]) :=
  ⟨⟨withInputs [.write 0x00C 0, .complete] (busyState (some ⟨.outOverflow, 64⟩)), _, _,
      rfl, rfl, rfl⟩,
    withInputs [.write 0x00C 0, .complete] (busyState none), _, rfl, rfl, rfl⟩

theorem witness_CompletionSetsDone :
    (∃ (s : State) (r : Running), s.running = some r ∧ s.inputs = [.complete] ∧
      r.error = none) ∧
    (∃ (s : State) (r : Running) (e : CmdError), s.running = some r ∧ s.inputs = [.complete] ∧
      r.error = some e) :=
  ⟨⟨withInputs [.complete] (busyState none), _, rfl, rfl, rfl⟩,
    withInputs [.complete] (busyState (some ⟨.indexRange, 0⟩)), _, _, rfl, rfl, rfl⟩

theorem witness_StatusReadsItsFields :
    (∃ s : State, s.inputs = [.read 0x008] ∧ s.busy = false) ∧
    (∃ s : State, s.inputs = [.read 0x008] ∧ s.busy = true) :=
  ⟨⟨withInputs [.read 0x008] p5, rfl, rfl⟩, withInputs [.read 0x008] (busyState none), rfl, rfl⟩

theorem witness_NopCompletesAtOnce :
    (∃ s : State, s.busy = false ∧ s.doneIe = true) ∧ (∃ s : State, s.busy = true) :=
  ⟨⟨{ State.reset with doneIe := true }, rfl, rfl⟩, busyState none, rfl⟩

theorem witness_SoftResetRestoresRegisters :
    p5.busy = false ∧ (busyState none).busy = true ∧ 255 < 256 := by decide

theorem witness_ResetInputRestoresRegisters :
    (∃ (s : State) (rest : List Event), s.inputs = .reset :: rest ∧ s.busy = true) ∧
    inPalmem 0x1000 ∧ inPalmem 0x13FF ∧ ¬ inPalmem 0xFFF ∧ ¬ inPalmem 0x1400 := by
  refine ⟨⟨withInputs [.reset, .read 0x008] (busyState none), _, rfl, rfl⟩, ?_⟩
  unfold inPalmem palBase palEnd
  omega

theorem witness_TrainFreezesTheNetwork :
    (frameOf 8 2 []).busy = false ∧ pixels (frameOf 8 2 []) = (frameOf 8 2 []).params.maxPixels := by
  decide

theorem witness_TrainWithoutSamplesGivesTheRamp :
    ∃ s : State, s.busy = false ∧ pixels s ≤ s.params.maxPixels ∧ 503 = pixels s ∧
      pixels s + 1 = s.quality.toNat :=
  ⟨{ State.reset with width := 503, height := 1, quality := 504 }, by decide⟩

theorem witness_TrainedChannelsStayInRange (pix : Nat → RGB) (n : I32) (q : BitVec 16) :
    ∃ u, u ∈ (learn pix n (q.setWidth 32)).net :=
  List.exists_mem_of_length_pos (by simp)

theorem witness_TrainDependsOnlyOnItsFrame :
    ∃ s s' : State, s ≠ s' ∧ s.busy = false ∧ s'.busy = false ∧
      pixels s ≤ s.params.maxPixels ∧ pixels s' ≤ s'.params.maxPixels ∧ 1 = pixels s ∧
      pixels s ≤ 2 ^ 22 ∧ pixels s' = pixels s ∧ s'.quality = s.quality ∧
      ∀ i, i < pixels s → s'.mem.pixel i = s.mem.pixel i :=
  ⟨frameOf 1 2 [0], { frameOf 1 2 [0] with palBits := 3, used := 1, palValid := true },
    by decide, rfl, rfl, by decide, by decide, by decide, by decide, rfl, rfl, fun _ _ => rfl⟩

/-- N at both ends of the range and at the first strided size, a pass that decays and one that does
not, and the winner's move at the last neuron. -/
theorem witness_LearningFollowsItsSchedule :
    (∀ n ∈ [1, 502, 503, 2 ^ 22], 1 ≤ n ∧ n ≤ 2 ^ 22) ∧ (1 : BitVec 16) ≠ 0 ∧
    (∃ t : Training, (t.i + 1).srem (if t.delta = 0 then 1 else t.delta) = 0 ∧
      t.radpower.length = 32 ∧ (decay t).rad.toInt ≤ 32) ∧
    (∃ t : Training, (t.i + 1).srem (if t.delta = 0 then 1 else t.delta) ≠ 0) ∧
    (∃ (net : List Neuron) (u : Neuron), net[255]? = some u) :=
  ⟨by decide, by decide, ⟨trainingStart 1 10, by decide⟩, ⟨trainingStart 76800 10, by decide⟩,
    initNetwork, initNeuron 255, by decide⟩

theorem witness_ContestPicksTheLowestLeast :
    ∃ (x : Sample) (net : List Neuron) (dist biasdist : Nat → I32),
      (∀ k u, net[k]? = some u → dist k = neuronDist x u ∧
        biasdist k = neuronDist x u - u.bias.sshiftRight 12 ∧
        (dist k).slt 0x7FFFFFFF = true ∧ (biasdist k).slt 0x7FFFFFFF = true) ∧ net ≠ [] := by
  refine ⟨⟨0, 0, 4080⟩, [⟨16, 16, 16, 256, 65536⟩], fun _ => 4096, fun _ => 4080, ?_, by decide⟩
  intro k u h
  cases k with
  | zero =>
    cases h
    decide
  | succ k => simp at h

theorem witness_NeighboursMoveByTheirDistance :
    ∃ (rad : I32) (net : List Neuron) (u : Neuron), net.length = 256 ∧ 255 < 256 ∧
      0 ≤ rad.toInt ∧ rad.toInt ≤ 256 ∧ net[254]? = some u ∧
      (((254 : Nat) : Int) - (255 : Nat)).natAbs < rad.toInt.toNat :=
  ⟨32, initNetwork, initNeuron 254, initNetwork_length, by decide, by decide, by decide,
    by decide, by decide⟩

theorem witness_MapAssignsNearestIndices :
    p5.busy = false ∧ pixels p5 ≤ p5.params.maxPixels ∧ p5.palValid = true ∧ 1 < pixels p5 ∧
    255 < 256 := by decide

theorem witness_MapMarksAtMostOneEntryPerPixel :
    p5.busy = false ∧ 1 ≤ pixels p5 ∧ pixels p5 ≤ p5.params.maxPixels ∧ p5.palValid = true := by
  decide

theorem witness_TransFindPicksNearestUsedEntry :
    (∃ s : State, s.busy = false ∧ s.palValid = true ∧ ∀ k, s.used.getLsbD k = false) ∧
    (∃ s : State, s.busy = false ∧ s.palValid = true ∧ s.used.getLsbD 255 = true) :=
  ⟨⟨p5, rfl, rfl, by intro k; exact BitVec.getLsbD_zero⟩,
    { p5 with used := BitVec.twoPow 256 255 }, rfl, rfl, by decide⟩

/-- The stream of L1 has five bytes: the capacity 5 just takes it, and 4 does not (LE5, LE6). -/
theorem witness_CompressWritesTheStream :
    ∃ s : State, s.busy = false ∧ pixels s ≤ s.params.maxPixels ∧
      (∀ p, p < pixels s → (s.mem.index p).toNat < 2 ^ compressSize s) ∧
      (lzwStream (compressSize s) (frameIndices s)).length = s.params.outCap ∧
      s.params.outCap ≤ 2 ^ 24 :=
  ⟨{ frameOf 1 2 [0] with params := ⟨1, 5⟩ }, by decide +kernel⟩

theorem witness_CompressRejectsLargeIndices :
    ∃ s : State, s.busy = false ∧ pixels s ≤ s.params.maxPixels ∧ 1 < pixels s ∧
      2 ^ compressSize s = (s.mem.index 1).toNat ∧
      ∀ p', p' < 1 → (s.mem.index p').toNat < 2 ^ compressSize s :=
  ⟨frameOf 2 2 [3, 4], by decide +kernel⟩

theorem witness_CompressReportsOverflow :
    ∃ s : State, s.busy = false ∧ pixels s ≤ s.params.maxPixels ∧
      (∀ p, p < pixels s → (s.mem.index p).toNat < 2 ^ compressSize s) ∧
      s.params.outCap + 1 = (lzwStream (compressSize s) (frameIndices s)).length :=
  ⟨{ frameOf 1 2 [0] with params := ⟨1, 4⟩ }, by decide +kernel⟩

/-- The premises of the stream statements, at both ends of m. -/
theorem witness_StreamHasTheDecodersFormat :
    (2 ≤ 2 ∧ 2 ≤ 8 ∧ [(3 : Byte)] ≠ [] ∧ ∀ x ∈ [(3 : Byte)], x.toNat < 2 ^ 2) ∧
    (2 ≤ 8 ∧ 8 ≤ 8 ∧ [(255 : Byte)] ≠ [] ∧ ∀ x ∈ [(255 : Byte)], x.toNat < 2 ^ 8) := by decide

/-- The statement has the premises of the one above. -/
theorem witness_StreamDecodesToItsIndices :
    ∃ (m : Nat) (idx : List Byte), 2 ≤ m ∧ m ≤ 8 ∧ idx ≠ [] ∧ ∀ x ∈ idx, x.toNat < 2 ^ m :=
  ⟨2, [0, 3, 3], by decide⟩

theorem witness_CodesFitTheirWidths :
    ∃ (m : Nat) (idx : List Nat), 2 ≤ m ∧ m ≤ 8 ∧ idx ≠ [] ∧ (∀ x ∈ idx, x < 2 ^ m) ∧
      (0, 3) ∈ widthCodes m idx :=
  ⟨2, [0, 3, 3], by decide⟩

/-- The statement has the premises of StreamHasTheDecodersFormat. -/
theorem witness_StreamStaysBelowItsBound :
    ∃ (m : Nat) (idx : List Byte), 2 ≤ m ∧ m ≤ 8 ∧ idx ≠ [] ∧ ∀ x ∈ idx, x.toNat < 2 ^ m :=
  ⟨8, [255, 255], by decide⟩

/-- Both clauses: a state whose COMPRESS raises another error, and one whose indices are in range.
The capacity is the bound itself. -/
theorem witness_DefaultCapacityNeverOverflows :
    (∃ s t u : State, s.Inv ∧ s.busy = false ∧ outBound s.params.maxPixels = s.params.outCap ∧
      exec .compress s = .next t ∧ exec .frame s = .next u) ∧
    (∃ s : State, s.Inv ∧ s.busy = false ∧ outBound s.params.maxPixels = s.params.outCap ∧
      pixels s = s.params.maxPixels ∧
      ∀ p, p < pixels s → (s.mem.index p).toNat < 2 ^ compressSize s) :=
  ⟨⟨rangeState, _, _, rangeState_inv, rfl, by decide, rfl, rfl⟩,
    inRangeState, inRangeState_inv, rfl, by decide, by decide, by decide⟩

theorem witness_QuantizeIsTrainThenMap :
    (frameOf 8 2 []).busy = false ∧ pixels (frameOf 8 2 []) ≤ (frameOf 8 2 []).params.maxPixels := by
  decide

theorem witness_FrameIsItsPhases :
    (∃ s : State, s.busy = false ∧ pixels s ≤ s.params.maxPixels ∧ s.transEn = true) ∧
    (∃ s : State, s.busy = false ∧ pixels s ≤ s.params.maxPixels ∧ s.transEn = false) :=
  ⟨⟨{ frameOf 8 2 [] with transEn := true }, by decide⟩, frameOf 8 2 [], by decide⟩

theorem witness_FrameFailsOnlyByOverflow :
    ∃ s : State, s.busy = false ∧ pixels s ≤ s.params.maxPixels ∧ s.transEn = false :=
  ⟨frameOf 8 2 [], by decide⟩

theorem witness_MisalignedAccessAnswersSlverr :
    (∃ s : State, (0x1 : BitVec 26).toNat % 4 ≠ 0 ∧ s.inputs = [.read 0x1]) ∧
    (∃ s : State, (0x3FFFFFF : BitVec 26).toNat % 4 ≠ 0 ∧ s.inputs = [.write 0x3FFFFFF 0]) :=
  ⟨⟨withInputs [.read 0x1] p5, by decide, rfl⟩,
    withInputs [.write 0x3FFFFFF 0] p5, by decide, rfl⟩

/-- The first offset of each case of `invalidOffset` for the default capacities, a window access
while BUSY is 1, and a write to OUTMEM. -/
theorem witness_OtherBusErrorsAnswerSlverr :
    (∀ off ∈ [0x018, 0x0A0, 0x1400, 0x104B000, 0x2012C00, 0x301C3EC],
      invalidOffset State.reset.params off) ∧
    (∃ s : State, s.busy = true ∧ windowOffset 0x1000 ∧ s.inputs = [.read 0x1000]) ∧
    (∃ s : State, s.busy = false ∧ 0x3000000 ≤ (0x3000000 : BitVec 26).toNat ∧
      s.inputs = [.write 0x3000000 0]) := by
  refine ⟨?_, ⟨withInputs [.read 0x1000] (busyState none), rfl, Nat.le_refl _, rfl⟩,
    withInputs [.write 0x3000000 0] p5, rfl, by decide, rfl⟩
  unfold invalidOffset
  decide

theorem witness_PixelWindow :
    ∃ s s' : State, s.busy = false ∧ 7 + 1 = s.params.maxPixels ∧ 7 < 2 ^ 22 ∧
      s.inputs = [.write (BitVec.ofNat 26 (0x1000000 + 4 * 7)) 0x00FF0000] ∧
      s'.busy = false ∧ 7 + 1 = s'.params.maxPixels ∧
      s'.inputs = [.read (BitVec.ofNat 26 (0x1000000 + 4 * 7))] :=
  ⟨withInputs [.write (BitVec.ofNat 26 (0x1000000 + 4 * 7)) 0x00FF0000] (frameOf 1 2 []),
    withInputs [.read (BitVec.ofNat 26 (0x1000000 + 4 * 7))] (frameOf 1 2 []),
    rfl, rfl, by decide, rfl, rfl, rfl, rfl⟩

/-- Word 1 of five indices: position 4 exists, positions 5 to 7 do not. -/
theorem witness_IndexWindow :
    ∃ s s' : State, s.busy = false ∧ 4 * 1 + 1 = s.params.maxPixels ∧ 1 < 2 ^ 22 ∧
      s.inputs = [.write (BitVec.ofNat 26 (0x2000000 + 4 * 1)) 0x04030201] ∧
      s'.busy = false ∧ 4 * 1 + 1 = s'.params.maxPixels ∧
      s'.inputs = [.read (BitVec.ofNat 26 (0x2000000 + 4 * 1))] :=
  ⟨withInputs [.write (BitVec.ofNat 26 (0x2000000 + 4 * 1)) 0x04030201]
      { frameOf 1 2 [] with params := ⟨5, 64⟩ },
    withInputs [.read (BitVec.ofNat 26 (0x2000000 + 4 * 1))]
      { frameOf 1 2 [] with params := ⟨5, 64⟩ },
    rfl, rfl, by decide, rfl, rfl, rfl, rfl⟩

theorem witness_PaletteWindow :
    ∃ s s' : State, s.busy = false ∧ 255 < 256 ∧
      s.inputs = [.write (BitVec.ofNat 26 (0x1000 + 4 * 255)) 0xFFFFFFFF] ∧
      s'.busy = false ∧ s'.inputs = [.read (BitVec.ofNat 26 (0x1000 + 4 * 255))] :=
  ⟨withInputs [.write (BitVec.ofNat 26 (0x1000 + 4 * 255)) 0xFFFFFFFF] p5,
    withInputs [.read (BitVec.ofNat 26 (0x1000 + 4 * 255))] p5, rfl, by decide, rfl, rfl, rfl⟩

/-- The last word of the default output memory: position 115688 exists, the next do not (V21). -/
theorem witness_OutputWindow :
    ∃ s s' : State, s.busy = false ∧ 4 * 28922 + 1 = s.params.outCap ∧ 28922 < 2 ^ 22 ∧
      s.inputs = [.read (BitVec.ofNat 26 (0x3000000 + 4 * 28922))] ∧
      s'.busy = false ∧ 4 * 28922 + 1 = s'.params.outCap ∧
      s'.inputs = [.write (BitVec.ofNat 26 (0x3000000 + 4 * 28922)) 0] :=
  ⟨withInputs [.read (BitVec.ofNat 26 (0x3000000 + 4 * 28922))] p5,
    withInputs [.write (BitVec.ofNat 26 (0x3000000 + 4 * 28922)) 0] p5,
    rfl, by decide, by decide, rfl, rfl, by decide, rfl⟩

theorem witness_ConfigurationWrites :
    ∀ a ∈ ([0x004, 0x020, 0x024, 0x028, 0x02C] : List (BitVec 26)),
      ∃ s : State, s.inputs = [.write a 0xFFFFFFFF] ∧ s.busy = true :=
  fun a _ => ⟨withInputs [.write a 0xFFFFFFFF] (busyState none), rfl, rfl⟩

/-- The first and the last register, and ERRCODE with each code. -/
theorem witness_RegisterReads :
    (∃ s s' : State, s.inputs = [.read 0x000] ∧ s'.inputs = [.read 0x040]) ∧
    ∀ e : ErrCode, ∃ s : State, s.inputs = [.read 0x010] ∧ s.errCode = e :=
  ⟨⟨withInputs [.read 0x000] p5, withInputs [.read 0x040] p5, rfl, rfl⟩,
    fun e => ⟨withInputs [.read 0x010] { p5 with errCode := e }, rfl, rfl⟩⟩

theorem witness_ResultRegisterReads :
    (∃ s : State, 7 < 8 ∧ s.inputs = [.read (BitVec.ofNat 26 (0x080 + 4 * 7))] ∧
      s.busy = false) ∧
    (∃ s : State, s.inputs = [.read 0x030] ∧ s.busy = true) :=
  ⟨⟨withInputs [.read (BitVec.ofNat 26 (0x080 + 4 * 7))] p5, by decide, rfl, rfl⟩,
    withInputs [.read 0x030] (busyState none), rfl, rfl⟩

theorem witness_ReadOnlyWritesAreIgnored :
    ∃ s : State, s.inputs = [.write 0x09C 0xFFFFFFFF] :=
  ⟨withInputs [.write 0x09C 0xFFFFFFFF] p5, rfl⟩

theorem witness_ReadsHaveNoSideEffect : ∃ s : State, s.inputs = [.read 0x034] ∧ s.busy = true :=
  ⟨withInputs [.read 0x034] (busyState none), rfl, rfl⟩

theorem witness_RepeatedWriteChangesNothing :
    ∃ s t u : State, s.mem.wf ∧ (0x1004 : BitVec 26) ≠ 0x00C ∧
      s.inputs = [.write 0x1004 0x000000FF, .write 0x1004 0x000000FF] ∧ step s = .next t ∧
      step t = .next u :=
  ⟨withInputs [.write 0x1004 0x000000FF, .write 0x1004 0x000000FF] p5, _, _,
    by decide, by decide, rfl, rfl, rfl⟩

theorem witness_ConfigurationWritesMissTheRunningCommand :
    (busyState none).busy = true ∧
    (0x02C : BitVec 26) ∈ ([0x004, 0x020, 0x024, 0x028, 0x02C] : List (BitVec 26)) := by decide

end Sys2Proof.Tests
end

section
/-! The invariant of the block is kept by every update of the state, by every phase of a command and
so by every step. -/

namespace Sys2Proof.Machine

/-! ## Legal configuration (10_state.md R35 to R37) -/

theorem legalWidth_ne_zero (v : Word) : legalWidth v ≠ 0 := by
  unfold legalWidth
  split
  · decide
  · assumption

theorem legalHeight_ne_zero (v : Word) : legalHeight v ≠ 0 := by
  unfold legalHeight
  split
  · decide
  · assumption

theorem legalQuality_ne_zero (v : Word) : legalQuality v ≠ 0 := by
  unfold legalQuality
  split
  · decide
  · assumption

theorem legalPalBits_range (v : Word) :
    1 ≤ (legalPalBits v).toNat ∧ (legalPalBits v).toNat ≤ 8 := by
  unfold legalPalBits
  split
  · decide
  · split
    · decide
    · bv_omega

/-- The errors of acceptance have a code (60_exceptions.md R252). -/
theorem preconditionError_code_ne_none {i : Instr} {s : State} {e : CmdError}
    (h : preconditionError i s = some e) : e.code ≠ .none := by
  rcases preconditionError_some h with ⟨-, -, rfl⟩ | ⟨-, -, rfl⟩ <;> simp

namespace State.Inv

variable {s : State}

/-! ## Updates of fields the invariant does not read -/

theorem setInputs (h : s.Inv) (es : List Event) : (s.setInputs es).Inv := { h with }
theorem respond (h : s.Inv) (r : Resp) (d : Word) : (s.respond r d).Inv := { h with }
theorem setUsed (h : s.Inv) (u : BitVec 256) : (s.setUsed u).Inv := { h with }
theorem setPalValid (h : s.Inv) (v : Bool) : (s.setPalValid v).Inv := { h with }
theorem setTransIndex (h : s.Inv) (v : Byte) : (s.setTransIndex v).Inv := { h with }
theorem writeCtrl (h : s.Inv) (v : Word) : (s.writeCtrl v).Inv := { h with }
theorem writeTransRgb (h : s.Inv) (v : Word) : (s.writeTransRgb v).Inv := { h with }

/-! ## Updates of one part of the invariant -/

theorem draw (h : s.Inv) : s.draw.Inv :=
  { h with draws := h.draws.imp Nat.lt_succ_of_lt Nat.lt_succ_of_lt }

theorem setMem (h : s.Inv) {m : Memory} (hwf : m.wf) (hin : m.inBounds s.params)
    (htag : m.tag < s.free) (hout : m.outTag < s.free) : (s.setMem m).Inv :=
  { h with memory := hwf, bounds := hin, draws := ⟨htag, hout⟩ }

theorem setOutput (h : s.Inv) {valid : Bool} {len : BitVec 25} (hv : valid = false → len = 0)
    (hl : len.toNat ≤ s.params.outCap) : (s.setOutput valid len).Inv :=
  { h with output := ⟨hv, hl⟩ }

theorem writeGeom (h : s.Inv) (v : Word) : (s.writeGeom v).Inv :=
  { h with geometry := ⟨legalWidth_ne_zero v, legalHeight_ne_zero v⟩ }

theorem writeQuality (h : s.Inv) (v : Word) : (s.writeQuality v).Inv :=
  { h with quality := legalQuality_ne_zero v }

theorem writePalBits (h : s.Inv) (v : Word) : (s.writePalBits v).Inv :=
  { h with palBits := legalPalBits_range v }

/-! ## The error record and the running command -/

theorem recordError (h : s.Inv) {code : ErrCode} (hc : code ≠ .none) (info : Word) :
    (s.recordError code info).Inv :=
  { h with record := ⟨by simp [hc], by simp⟩ }

theorem ackErr (h : s.Inv) : s.ackErr.Inv :=
  { h with record := ⟨by simp, by simp⟩ }

theorem ackDone (h : s.Inv) : s.ackDone.Inv :=
  { h with running := fun r hr => ⟨rfl, (h.running r hr).2⟩ }

theorem writeStatus (h : s.Inv) (v : Word) : (s.writeStatus v).Inv := by
  have h1 : (if v.getLsbD 1 then s.ackDone else s).Inv := by
    split
    · exact h.ackDone
    · exact h
  unfold State.writeStatus
  dsimp only
  split
  · exact h1.ackErr
  · exact h1

theorem finish (h : s.Inv) : s.finish.Inv := { h with running := by simp }

theorem complete (h : s.Inv) : s.complete.Inv := by
  cases hr : s.running with
  | none => rwa [complete_of_idle hr]
  | some r =>
    cases he : r.error with
    | none => rw [complete_of_success hr he]; exact h.finish
    | some e =>
      rw [complete_of_error hr he]
      exact (h.recordError ((h.running r hr).2.2 e he) e.info).finish

/-- The running command may change what it holds, as long as its error has a code. -/
theorem mapRunning (h : s.Inv) (f : Running → Running)
    (hf : ∀ r, (∀ e, r.error = some e → e.code ≠ .none) →
      ∀ e, (f r).error = some e → e.code ≠ .none) :
    ({ s with running := s.running.map f } : State).Inv :=
  { h with
    running := fun r hr => by
      obtain ⟨r', hr', rfl⟩ := Option.map_eq_some_iff.1 hr
      obtain ⟨hdone, hop, herr⟩ := h.running r' hr'
      exact ⟨hdone, hop, hf r' herr⟩ }

theorem setTraining (h : s.Inv) (t : Training) : (s.setTraining t).Inv :=
  h.mapRunning _ fun _ hr => hr

theorem setCoder (h : s.Inv) (c : Coder) : (s.setCoder c).Inv :=
  h.mapRunning _ fun _ hr => hr

theorem raiseInPhase (h : s.Inv) {code : ErrCode} (hc : code ≠ .none) (info : Word) :
    (s.raiseInPhase code info).Inv :=
  h.mapRunning _ fun _ _ e he => by cases he; exact hc

/-- A command with a BUSY period may be accepted (40_control.md R124). -/
theorem accept (h : s.Inv) {i : Instr} (hi : 2 ≤ i.op.toNat ∧ i.op.toNat ≤ 7) :
    (s.accept i).Inv :=
  { h with
    record := ⟨by simp, by simp⟩
    running := fun r hr => by cases hr; exact ⟨rfl, hi, by simp⟩ }

/-- Any command may be accepted and complete at once. -/
theorem accept_finish (h : s.Inv) (i : Instr) : (s.accept i).finish.Inv :=
  { h with record := ⟨by simp, by simp⟩, running := by simp }

/-! ## Host accesses -/

theorem hostRead (h : s.Inv) (a : BitVec 26) : (hostRead a s).Inv := by
  obtain ⟨r, d, heq | heq⟩ := hostRead_cases a s <;> rw [heq]
  · exact h.respond r d
  · exact (h.respond r d).draw

theorem writeReg (h : s.Inv) (v : Word) (r : Reg) : (writeReg v s r).Inv := by
  rcases writeReg_cases v s r with heq | heq | heq | heq | heq | heq | heq <;> rw [heq]
  · exact h
  · exact h.writeCtrl v
  · exact h.writeStatus v
  · exact h.writeGeom v
  · exact h.writeQuality v
  · exact h.writePalBits v
  · exact h.writeTransRgb v

/-- Bytes may be stored at cells that exist. -/
theorem setMem_writeBytes (h : s.Inv) {a : Nat} {vs : List Byte}
    (hc : ∀ j, j < vs.length → isCell s.params (a + j) = true) :
    (s.setMem (s.mem.writeBytes a vs)).Inv :=
  h.setMem (Memory.wf_writeBytes vs h.memory a) (Memory.inBounds_writeBytes vs h.bounds hc)
    (by simpa using h.draws.1) (by simpa using h.draws.2)

/-- Colours may be stored at words whose three cells exist. -/
theorem setMem_writeColours (h : s.Inv) {a : Nat} {cs : List RGB}
    (hc : ∀ k, k < cs.length → ∀ d, d < 3 → isCell s.params (a + 4 * k + d) = true) :
    (s.setMem (s.mem.writeColours a cs)).Inv :=
  h.setMem (Memory.wf_writeColours cs h.memory a) (Memory.inBounds_writeColours cs h.bounds hc)
    (by simpa using h.draws.1) (by simpa using h.draws.2)

/-- A colour may be stored at a word whose three cells exist. -/
theorem setMem_writeColour (h : s.Inv) {a : Nat} (c : RGB)
    (hc : ∀ d, d < 3 → isCell s.params (a + d) = true) :
    (s.setMem (s.mem.writeColour a c)).Inv :=
  h.setMem_writeColours (cs := [c]) fun k hk d hd => by
    obtain rfl : k = 0 := by simpa using hk
    exact hc d hd

theorem hostWrite (h : s.Inv) (a : BitVec 26) (v : Word) : (hostWrite a v s).Inv := by
  rcases hostWrite_cases a v s with heq | ⟨r, heq⟩ | ⟨-, k, hk, heq⟩ | ⟨-, i, hi, -, heq⟩ |
    ⟨-, w, -, -, heq⟩ <;> rw [heq]
  · exact h.respond .slverr 0
  · exact (h.writeReg v r).respond .okay 0
  · refine ((h.setMem_writeColour _ fun d hd => ?_).setPalValid true).respond .okay 0
    simpa [palAddr] using isCell_pal s.params hk hd
  · exact (h.setMem_writeColour _ fun d hd => isCell_pix hi hd).respond .okay 0
  · refine (h.setMem_writeBytes fun j hj => ?_).respond .okay 0
    rw [idxBytes_length] at hj
    have hcell : isCell s.params (idxAddr 0 + (4 * w + j)) = true := isCell_idx (by omega)
    simpa [idxAddr, Nat.add_assoc] using hcell

/-! ## The phases of the commands -/

variable {c : Snapshot}

theorem trainPhase (h : s.Inv) (c : Snapshot) : (trainPhase c s).Inv := by
  refine (((h.setMem_writeColours fun k hk d hd => ?_).setPalValid true).setUsed 0).setTraining _
  exact isCell_pal s.params (by simpa using hk) hd

/-- MAP stays within IDXMEM when N is at most MAX_PIXELS. -/
theorem mapPhase (h : s.Inv) (hn : c.n.toNat ≤ s.params.maxPixels) : (mapPhase c s).Inv := by
  refine (h.setMem_writeBytes fun j hj => ?_).setUsed _
  rw [mappedIndices_length] at hj
  exact isCell_idx (by omega)

theorem transFindPhase (h : s.Inv) (c : Snapshot) : (transFindPhase c s).Inv := h.setTransIndex _

theorem openOutput (h : s.Inv) : (openOutput s).Inv :=
  { h with
    memory := Memory.wf_openOut h.memory _
    bounds := Memory.inBounds_openOut h.bounds _
    output := by simp
    draws := ⟨Nat.lt_succ_of_lt h.draws.1, Nat.lt_succ_self _⟩ }

theorem compressPhase (h : s.Inv) (d : Nat) (c : Snapshot) : (compressPhase d c s).Inv := by
  rcases compressPhase_cases d c s with ⟨p, -, heq⟩ | ⟨-, -, heq⟩ | ⟨-, hlen, heq⟩ <;> rw [heq]
  · exact h.openOutput.raiseInPhase (by decide) _
  · exact (h.openOutput.setCoder _).raiseInPhase (by decide) _
  · refine ((h.openOutput.setCoder _).setMem_writeBytes fun j hj => ?_).setOutput (by simp) ?_
    · exact isCell_out (lt_of_lt_of_le hj hlen)
    · rw [BitVec.toNat_ofNat]
      exact (Nat.mod_le _ _).trans hlen

theorem frameTransparency (h : s.Inv) (c : Snapshot) : (frameTransparency c s).Inv := by
  unfold Machine.frameTransparency
  split
  · exact h.transFindPhase c
  · exact h.setTransIndex 0

theorem quantizeBody (h : s.Inv) (hn : c.n.toNat ≤ s.params.maxPixels) :
    (quantizeBody c s).Inv :=
  (h.trainPhase c).mapPhase (by simpa using hn)

theorem frameBody (h : s.Inv) (hn : c.n.toNat ≤ s.params.maxPixels) : (frameBody c s).Inv :=
  (((h.trainPhase c).mapPhase (by simpa using hn)).frameTransparency c).compressPhase 8 c

/-! ## Reset (70_reset_and_hazards.md R281) -/

theorem reset : State.reset.Inv where
  capacities := by decide
  geometry := by decide
  quality := by decide
  palBits := by decide
  memory := by decide
  bounds := by decide
  output := by decide
  record := by decide
  running := nofun
  draws := by decide

/-- The reset values of the registers are sound with any sound capacities and memory. -/
theorem resetRegisters (h : s.Inv) {m : Memory} (es : List Event) (r : Option Response) {n : Nat}
    (hwf : m.wf) (hin : m.inBounds s.params) (htag : m.tag < n) (hout : m.outTag < n) :
    ({ State.reset with
      params := s.params, mem := m, inputs := es, resp := r, free := n } : State).Inv :=
  { State.Inv.reset with
    capacities := h.capacities
    memory := hwf
    bounds := hin
    output := ⟨fun _ => rfl, Nat.zero_le _⟩
    draws := ⟨htag, hout⟩ }

theorem softResetBody (h : s.Inv) (c : Snapshot) : (softResetBody c s).Inv :=
  h.resetRegisters s.inputs s.resp (Memory.wf_clearPalette h.memory)
    (Memory.inBounds_clearPalette h.bounds) h.draws.1 h.draws.2

theorem resetInput (h : s.Inv) : (resetInput s).Inv :=
  h.resetRegisters s.inputs none (by simp [Memory.wf]) (by simp [Memory.inBounds])
    (Nat.lt_succ_self _) (Nat.lt_succ_self _)

end State.Inv

/-! ## Commands and steps -/

/-- The body of every command keeps the invariant once its preconditions are met. -/
theorem State.Inv.bodyOf {s : State} (h : s.Inv) {i : Instr} (hp : preconditionError i s = none) :
    (bodyOf i s.snapshot (s.accept i)).Inv := by
  obtain ⟨hgeom, -⟩ := preconditionError_eq_none_iff.1 hp
  cases i with
  | nop => exact h.accept_finish .nop
  | softReset => exact h.softResetBody s.snapshot
  | train => exact (h.accept (by decide)).trainPhase _
  | map => exact (h.accept (by decide)).mapPhase (hgeom rfl)
  | transFind => exact (h.accept (by decide)).transFindPhase _
  | compress => exact (h.accept (by decide)).compressPhase _ _
  | quantize => exact (h.accept (by decide)).quantizeBody (hgeom rfl)
  | frame => exact (h.accept (by decide)).frameBody (hgeom rfl)

/-- Presenting a command keeps the invariant, however it is answered (40_control.md R121). -/
theorem State.Inv.exec {s t : State} (h : s.Inv) {i : Instr} (ht : exec i s = .next t) :
    t.Inv := by
  rw [exec_eq_issue] at ht
  rcases issue_cases ht with ⟨-, rfl⟩ | ⟨-, e, he, rfl⟩ | ⟨-, hp, rfl⟩
  · exact h.recordError (by decide) _
  · exact (h.accept_finish i).recordError (preconditionError_code_ne_none he) e.info
  · exact h.bodyOf hp

theorem State.Inv.presentCommand {s t : State} (h : s.Inv) {v : Word}
    (ht : presentCommand v s = .next t) : t.Inv := by
  rcases presentCommand_cases ht with ⟨i, -, hi⟩ | ⟨-, -, ⟨-, rfl⟩ | ⟨-, rfl⟩⟩
  · exact h.exec hi
  · exact h.recordError (by decide) v
  · exact h.recordError (by decide) v

theorem State.Inv.step {s t : State} (h : s.Inv) (ht : step s = .next t) : t.Inv := by
  rcases step_cases ht with ⟨-, rfl⟩ | ⟨e, rest, -, hserve⟩
  · exact h.complete
  · have h' : (s.setInputs rest).Inv := h.setInputs rest
    rcases hserve with ⟨a, -, rfl⟩ | ⟨a, v, -, -, rfl⟩ | ⟨v, -, hv⟩ | ⟨-, rfl⟩ | ⟨-, rfl⟩
    · exact h'.hostRead a
    · exact h'.hostWrite a v
    · exact (h'.respond .okay 0).presentCommand hv
    · exact h'.complete
    · exact h'.resetInput

/-- Settles O8: by the event the step serves, from one lemma for each update and each phase. -/
theorem stepKeepsInvariant : Obligations.StepKeepsInvariant := fun _ _ h ht => h.step ht

end Sys2Proof.Machine
end

section
/-! The length of the coder's stream: the bits of every emitted code are counted, and so are the
CLEARs, which stand at least 3839 passes apart (00_scope.md R9). -/

namespace Sys2Proof.Machine

namespace Coder

variable {c : Coder} {bits code m p : Nat}

/-! ## What sending a code leaves alone -/

/-- `put_byte` moves the byte to the block or the stream and nothing else (43_lzw.md R206). -/
theorem putByte_frame (b : Byte) (c : Coder) :
    ∃ s blk, c.putByte b = { c with s := s, blk := blk } := by
  unfold putByte
  split
  · exact ⟨_, _, rfl⟩
  · exact ⟨_, _, rfl⟩

theorem putByte_nacc (b : Byte) (c : Coder) : (c.putByte b).nacc = c.nacc := by
  obtain ⟨s, blk, hput⟩ := putByte_frame b c
  rw [hput]

theorem drain_frame (fuel : Nat) : ∀ c : Coder,
    ∃ s blk acc nacc, drain fuel c = { c with s := s, blk := blk, acc := acc, nacc := nacc } := by
  induction fuel with
  | zero => exact fun c => ⟨_, _, _, _, rfl⟩
  | succ fuel ih =>
    intro c
    unfold drain
    split
    · obtain ⟨s, blk, hput⟩ := putByte_frame (BitVec.ofNat 8 (c.acc % 256)) c
      rw [hput]
      exact ih _
    · exact ⟨_, _, _, _, rfl⟩

/-- `emit(code)` up to the width update: the bits of the code go out (43_lzw.md R205). -/
def send (code : Nat) (c : Coder) : Coder :=
  drain (c.nacc + c.n) { c with acc := c.acc + code * 2 ^ c.nacc, nacc := c.nacc + c.n }

theorem send_frame (code : Nat) (c : Coder) :
    ∃ s blk acc nacc, c.send code = { c with s := s, blk := blk, acc := acc, nacc := nacc } :=
  drain_frame _ _

theorem emit_of_ne_eoi (h : code ≠ eoiCode c.m) : c.emit code = (c.send code).updateWidth :=
  if_neg h

theorem emit_eoi (c : Coder) :
    c.emit (eoiCode c.m) = (c.send (eoiCode c.m)).updateWidth.finalFlush :=
  if_pos rfl

/-- The width update changes the width and consumes the flag of a CLEAR (43_lzw.md R207). -/
theorem updateWidth_frame (c : Coder) :
    ∃ n flag, c.updateWidth = { c with n := n, clearflag := flag } := by
  unfold updateWidth
  split
  · exact ⟨_, _, rfl⟩
  · split
    · exact ⟨_, _, rfl⟩
    · exact ⟨_, _, rfl⟩

theorem emit_frame (h : code ≠ eoiCode c.m) :
    ∃ s blk acc nacc n flag, c.emit code =
      { c with s := s, blk := blk, acc := acc, nacc := nacc, n := n, clearflag := flag } := by
  obtain ⟨n, flag, hwidth⟩ := updateWidth_frame (c.send code)
  obtain ⟨s, blk, acc, nacc, hsend⟩ := send_frame code c
  rw [emit_of_ne_eoi h, hwidth, hsend]
  exact ⟨s, blk, acc, nacc, n, flag, rfl⟩

theorem emit_m (h : code ≠ eoiCode c.m) : (c.emit code).m = c.m := by
  obtain ⟨s, blk, acc, nacc, n, flag, hemit⟩ := emit_frame h
  rw [hemit]

theorem emit_free (h : code ≠ eoiCode c.m) : (c.emit code).free = c.free := by
  obtain ⟨s, blk, acc, nacc, n, flag, hemit⟩ := emit_frame h
  rw [hemit]

theorem emit_dict (h : code ≠ eoiCode c.m) : (c.emit code).dict = c.dict := by
  obtain ⟨s, blk, acc, nacc, n, flag, hemit⟩ := emit_frame h
  rw [hemit]

/-- No code is wider than 12 bits (43_lzw.md R208). -/
theorem updateWidth_n_le (hm : c.m + 1 ≤ 12) (hn : c.n ≤ 12) (hfree : c.free ≤ maxMaxCode) :
    c.updateWidth.n ≤ 12 := by
  unfold updateWidth
  split
  · exact hm
  · split
    · next hgrow =>
      have hlt : c.n < 12 := by
        by_contra hge
        rw [maxCode, if_neg hge] at hgrow
        omega
      exact hlt
    · exact hn

theorem emit_n_le (h : code ≠ eoiCode c.m) (hm : c.m + 1 ≤ 12) (hn : c.n ≤ 12)
    (hfree : c.free ≤ maxMaxCode) : (c.emit code).n ≤ 12 := by
  obtain ⟨s, blk, acc, nacc, hsend⟩ := send_frame code c
  rw [emit_of_ne_eoi h, hsend]
  exact updateWidth_n_le hm hn hfree

/-! ## Counting the bits sent -/

/-- The codes emitted so far have `bits` bits: whole blocks of 254 bytes behind their length stand
in the stream after the byte m, further bytes in the open block, the last bits in `acc`. -/
structure HasSent (c : Coder) (bits : Nat) : Prop where
  count : ∃ k, c.s.length = 1 + 255 * k ∧ bits = 8 * (254 * k + c.blk.length) + c.nacc
  openBlock : c.blk.length < 254

namespace HasSent

theorem start (m : Nat) : (Coder.start m).HasSent 0 := ⟨⟨0, rfl, rfl⟩, Nat.zero_lt_succ _⟩

theorem putByte (h : c.HasSent bits) (b : Byte) : (c.putByte b).HasSent (bits + 8) := by
  obtain ⟨⟨k, hs, hbits⟩, hblk⟩ := h
  unfold Coder.putByte
  split
  · next hfull =>
    refine ⟨⟨k + 1, ?_, ?_⟩, Nat.zero_lt_succ _⟩
    · simp only [List.length_append, List.length_cons, List.length_nil]
      omega
    · simp only [List.length_nil]
      omega
  · next hroom =>
    refine ⟨⟨k, hs, ?_⟩, ?_⟩
    · simp only [List.length_append, List.length_singleton]
      omega
    · simp only [List.length_append, List.length_singleton]
      omega

/-- Bits that enter or leave `acc` are counted by `nacc`. -/
theorem setAcc (h : c.HasSent bits) {bits' nacc : Nat} (hn : bits' + c.nacc = bits + nacc)
    (acc : Nat) : ({ c with acc := acc, nacc := nacc } : Coder).HasSent bits' := by
  obtain ⟨⟨k, hs, hbits⟩, hblk⟩ := h
  exact ⟨⟨k, hs, by dsimp only; omega⟩, hblk⟩

theorem drain (fuel : Nat) : ∀ {c : Coder}, c.HasSent bits → (Coder.drain fuel c).HasSent bits := by
  induction fuel with
  | zero => exact id
  | succ fuel ih =>
    intro c h
    unfold Coder.drain
    split
    · next hbyte =>
      have hnacc := putByte_nacc (BitVec.ofNat 8 (c.acc % 256)) c
      exact ih ((h.putByte _).setAcc (by omega) _)
    · exact h

theorem send (h : c.HasSent bits) (code : Nat) : (c.send code).HasSent (bits + c.n) :=
  (h.setAcc (by omega) _).drain _

theorem updateWidth (h : c.HasSent bits) : c.updateWidth.HasSent bits := by
  obtain ⟨n, flag, hwidth⟩ := updateWidth_frame c
  rw [hwidth]
  exact { h with }

theorem emit (h : c.HasSent bits) (hc : code ≠ eoiCode c.m) :
    (c.emit code).HasSent (bits + c.n) := by
  rw [emit_of_ne_eoi hc]
  exact (h.send code).updateWidth

end HasSent

/-! ## The length of the flushed stream -/

/-- After the loop of `emit` fewer than 8 bits wait (43_lzw.md R205). -/
theorem drain_nacc_lt (fuel : Nat) : ∀ {c : Coder}, c.nacc ≤ fuel → (drain fuel c).nacc < 8 := by
  induction fuel with
  | zero =>
    intro c h
    rw [drain]
    omega
  | succ fuel ih =>
    intro c h
    unfold drain
    split
    · exact ih (by dsimp only; omega)
    · omega

theorem send_nacc_lt (code : Nat) (c : Coder) : (c.send code).nacc < 8 :=
  drain_nacc_lt _ le_rfl

/-- The bytes of a stream with `d` bytes of data: m, the data, a length byte for each block of 254
data bytes or a part of one, and the terminator (30_encoding.md R94). -/
def streamBytes (d : Nat) : Nat := 2 + d + (d + 253) / 254

theorem streamBytes_mono {d d' : Nat} (h : d ≤ d') : streamBytes d ≤ streamBytes d' := by
  unfold streamBytes
  omega

theorem outBound_eq (n : Nat) :
    outBound n = streamBytes ((12 * (n + 2 + (n - 1) / 3839) + 7) / 8) := rfl

/-- The last bits leave as one padded byte (43_lzw.md R213). -/
theorem HasSent.flushBits (h : c.HasSent bits) (hn : c.nacc < 8) :
    c.flushBits.HasSent (8 * ((bits + 7) / 8)) := by
  have hbits : bits % 8 = c.nacc := by
    obtain ⟨⟨k, -, hbits⟩, -⟩ := h
    omega
  unfold Coder.flushBits
  dsimp only
  split
  · have hnacc := putByte_nacc (BitVec.ofNat 8 c.acc) c
    exact (h.putByte _).setAcc (by omega) 0
  · exact h.setAcc (by omega) 0

@[simp] theorem flushBits_nacc (c : Coder) : c.flushBits.nacc = 0 := rfl

/-- The last block leaves behind its length (43_lzw.md R213). -/
theorem HasSent.flushBlock_length {d : Nat} (h : c.HasSent (8 * d)) (hn : c.nacc = 0) :
    c.flushBlock.s.length = 1 + d + (d + 253) / 254 := by
  obtain ⟨⟨k, hs, hbits⟩, hblk⟩ := h
  unfold flushBlock
  split
  · simp only [List.length_append, List.length_cons]
    omega
  · omega

theorem HasSent.finalFlush_length (h : c.HasSent bits) (hn : c.nacc < 8) :
    c.finalFlush.s.length = streamBytes ((bits + 7) / 8) := by
  have hlast := (h.flushBits hn).flushBlock_length (flushBits_nacc c)
  simp only [finalFlush, streamBytes, List.length_append, List.length_singleton, hlast]
  omega

/-- Emitting EOI ends the stream (43_lzw.md R212). -/
theorem HasSent.emit_eoi_length (h : c.HasSent bits) :
    (c.emit (eoiCode c.m)).s.length = streamBytes ((bits + c.n + 7) / 8) := by
  obtain ⟨n, flag, hwidth⟩ := updateWidth_frame (c.send (eoiCode c.m))
  rw [emit_eoi]
  refine (h.send _).updateWidth.finalFlush_length ?_
  rw [hwidth]
  exact send_nacc_lt _ c

/-! ## One pass of the loop -/

theorem lookup_mem {pair : Nat × Nat} {dict : List ((Nat × Nat) × Nat)}
    (h : lookup pair dict = some code) : (pair, code) ∈ dict := by
  induction dict with
  | nil => cases h
  | cons e es ih =>
    unfold lookup at h
    split at h
    · next heq =>
      obtain rfl := Option.some.inj h
      rw [heq]
      exact List.mem_cons_self
    · exact List.mem_cons_of_mem _ (ih h)

/-- Everything one pass can do: `ent` becomes the code of a longer string, or it is emitted and the
longer string enters the dictionary, or it is emitted and the full dictionary is cleared
(43_lzw.md R209 to R211). -/
theorem pass_cases (c : Coder) (x : Nat) :
    (∃ code, lookup (c.ent, x) c.dict = some code ∧ c.pass x = { c with ent := code }) ∨
    (∃ c1, c1 = c.emit c.ent ∧ c1.free < maxMaxCode ∧ c.pass x =
      { c1 with dict := ((c.ent, x), c1.free) :: c1.dict, free := c1.free + 1, ent := x }) ∨
    (∃ c1, c1 = c.emit c.ent ∧ maxMaxCode ≤ c1.free ∧
      c.pass x = { c1.dictionaryFull with ent := x }) := by
  unfold pass
  split
  · next code hfound => exact .inl ⟨code, hfound, rfl⟩
  · by_cases hroom : (c.emit c.ent).free < maxMaxCode
    · exact .inr (.inl ⟨_, rfl, hroom, by simp only [if_pos hroom]⟩)
    · exact .inr (.inr ⟨_, rfl, not_lt.1 hroom, by simp only [if_neg hroom]⟩)

/-! ## The codes of a run -/

theorem clearCode_ne_eoiCode (m : Nat) : clearCode m ≠ eoiCode m := by
  unfold clearCode eoiCode
  omega

theorem ne_eoiCode_of_lt {x : Nat} (h : x < 2 ^ m) : x ≠ eoiCode m := by
  unfold eoiCode
  omega

theorem ne_eoiCode_of_firstCode_le {x : Nat} (h : firstCode m ≤ x) : x ≠ eoiCode m := by
  unfold firstCode at h
  unfold eoiCode
  omega

theorem firstCode_le (hm : m ≤ 8) : firstCode m ≤ 258 := by
  have hpow : 2 ^ m ≤ 2 ^ 8 := Nat.pow_le_pow_right (by decide) hm
  unfold firstCode
  omega

/-- The coder after `p` passes with minimum code size m. `ent` and the dictionary hold no EOI,
so no pass flushes the stream; no width is above 12; and of the codes emitted one is the first
CLEAR, at most p are data codes, and every further CLEAR took 3839 passes. -/
structure AfterPasses (m p : Nat) (c : Coder) : Prop where
  size : c.m = m
  width : c.n ≤ 12
  freeRange : firstCode m ≤ c.free ∧ c.free ≤ maxMaxCode
  dictCodes : ∀ e ∈ c.dict, e.2 ≠ eoiCode m
  entCode : c.ent ≠ eoiCode m
  budget : ∃ clears bits, c.HasSent bits ∧ 3839 * clears + c.free ≤ p + firstCode m ∧
    bits ≤ 12 * (1 + p + clears)

/-- Emitting a CLEAR, the first one or one for a full dictionary, with the dictionary empty. -/
theorem afterPasses_emit_clear {clears x : Nat} (hm : m ≤ 8) (hsize : c.m = m)
    (hn : c.n ≤ 12) (hfree : c.free = firstCode m) (hdict : c.dict = []) (hsent : c.HasSent bits)
    (hclears : 3839 * clears ≤ p) (hbits : bits + 12 ≤ 12 * (1 + p + clears))
    (hx : x ≠ eoiCode m) : AfterPasses m p { c.emit (clearCode m) with ent := x } := by
  have hfirst := firstCode_le hm
  have hc : clearCode m ≠ eoiCode c.m := hsize ▸ clearCode_ne_eoiCode m
  have hmax : c.free ≤ maxMaxCode := hfree ▸ hfirst.trans (by decide)
  have hfree' : (c.emit (clearCode m)).free = firstCode m := (emit_free hc).trans hfree
  have hdict' : (c.emit (clearCode m)).dict = [] := (emit_dict hc).trans hdict
  refine ⟨(emit_m hc).trans hsize, emit_n_le hc (by omega) hn hmax, ?_, ?_, hx, clears, _,
    { hsent.emit hc with }, ?_, by omega⟩
  · exact ⟨hfree'.ge, hfree'.le.trans (hfree ▸ hmax)⟩
  · dsimp only
    rw [hdict']
    exact nofun
  · dsimp only
    rw [hfree']
    omega

/-- The coder before the first pass has emitted the first CLEAR (43_lzw.md R209). -/
theorem afterPasses_start (hm : m ≤ 8) {x : Nat} (hx : x ≠ eoiCode m) :
    AfterPasses m 0 { (start m).emit (clearCode m) with ent := x } :=
  afterPasses_emit_clear (clears := 0) hm rfl (Nat.succ_le_succ (hm.trans (by decide))) rfl rfl
    (HasSent.start m) le_rfl le_rfl hx

theorem dictionaryFull_eq (h : c.m = m) : c.dictionaryFull =
    { c with dict := [], free := firstCode m, clearflag := true }.emit (clearCode m) := by
  subst h
  rfl

/-- A pass emits at most its data code, and a CLEAR only when the dictionary is full: from
`firstCode m` up to 4096, at least 3838 passes before this one have filled it. -/
theorem AfterPasses.pass (h : AfterPasses m p c) (hm : m ≤ 8) {x : Nat} (hx : x ≠ eoiCode m) :
    AfterPasses m (p + 1) (c.pass x) := by
  obtain ⟨hsize, hwidth, ⟨hlo, hhi⟩, hdict, hent, clears, bits, hsent, hclears, hbits⟩ := h
  have hfirst := firstCode_le hm
  have hc : c.ent ≠ eoiCode c.m := by rwa [hsize]
  have hsize1 : (c.emit c.ent).m = m := (emit_m hc).trans hsize
  have hwidth1 : (c.emit c.ent).n ≤ 12 := emit_n_le hc (by omega) hwidth hhi
  have hsent1 := hsent.emit hc
  rcases pass_cases c x with ⟨code, hfound, hpass⟩ | ⟨c1, rfl, hroom, hpass⟩ |
    ⟨c1, rfl, hfull, hpass⟩ <;> rw [hpass]
  · exact ⟨hsize, hwidth, ⟨hlo, hhi⟩, hdict, hdict _ (lookup_mem hfound), clears, bits,
      { hsent with }, by dsimp only; omega, by omega⟩
  · rw [emit_free hc] at hroom ⊢
    rw [emit_dict hc]
    refine ⟨hsize1, hwidth1, ⟨by dsimp only; omega, hroom⟩, ?_, hx, clears, _, { hsent1 with },
      by dsimp only; omega, by omega⟩
    intro e he
    rcases List.mem_cons.1 he with rfl | he
    · exact ne_eoiCode_of_firstCode_le hlo
    · exact hdict e he
  · rw [emit_free hc] at hfull
    unfold maxMaxCode at hfull
    rw [dictionaryFull_eq hsize1]
    exact afterPasses_emit_clear (clears := clears + 1) hm hsize1 hwidth1 rfl rfl
      { hsent1 with } (by omega) (by omega) hx

theorem AfterPasses.foldl (hm : m ≤ 8) (xs : List Nat) : ∀ {p : Nat} {c : Coder},
    AfterPasses m p c → (∀ x ∈ xs, x ≠ eoiCode m) →
      AfterPasses m (p + xs.length) (xs.foldl Coder.pass c) := by
  induction xs with
  | nil => exact fun h _ => h
  | cons x xs ih =>
    intro p c h hxs
    obtain ⟨hx, hrest⟩ := List.forall_mem_cons.1 hxs
    rw [List.foldl_cons, List.length_cons, Nat.add_comm xs.length, ← Nat.add_assoc]
    exact ih (h.pass hm hx) hrest

/-- The end of the input adds the last data code and EOI (43_lzw.md R212). -/
theorem AfterPasses.endOfInput_length (h : AfterPasses m p c) (hm : m ≤ 8) :
    c.endOfInput.s.length ≤ outBound (p + 1) := by
  obtain ⟨hsize, hwidth, ⟨hlo, hhi⟩, -, hent, clears, bits, hsent, hclears, hbits⟩ := h
  have hc : c.ent ≠ eoiCode c.m := by rwa [hsize]
  have hwidth1 : (c.emit c.ent).n ≤ 12 := emit_n_le hc (by omega) hwidth hhi
  have hlength := (hsent.emit hc).emit_eoi_length
  rw [emit_m hc] at hlength
  rw [endOfInput, hlength, outBound_eq]
  exact streamBytes_mono (by omega)

end Coder

/-- The stream of N indices below 2^m has at most OUT_BOUND(N) bytes (00_scope.md R9). -/
theorem lzwStream_length_le {m : Nat} {idx : List Byte} (hm : m ≤ 8) (hne : idx ≠ [])
    (hidx : ∀ x ∈ idx, x.toNat < 2 ^ m) : (lzwStream m idx).length ≤ outBound idx.length := by
  obtain ⟨x, xs, rfl⟩ := List.exists_cons_of_ne_nil hne
  obtain ⟨hx, hxs⟩ := List.forall_mem_cons.1 hidx
  have hcodes : ∀ y ∈ xs.map BitVec.toNat, y ≠ eoiCode m :=
    List.forall_mem_map.2 fun y hy => Coder.ne_eoiCode_of_lt (hxs y hy)
  have hrun := (Coder.afterPasses_start hm (Coder.ne_eoiCode_of_lt hx)).foldl hm _ hcodes
  have hlength := hrun.endOfInput_length hm
  rw [Nat.zero_add, List.length_map] at hlength
  exact hlength

/-- Settles O42, by the invariant `AfterPasses` over the passes of the coder: N + 2 codes and one
CLEAR per 3839 passes, none above 12 bits. -/
theorem streamStaysBelowItsBound : Obligations.StreamStaysBelowItsBound :=
  fun _ _ _ hm hne hidx => lzwStream_length_le hm hne hidx

end Sys2Proof.Machine
end

section
/-! Accesses to the registers: which register an offset selects, what the step that serves its read
answers, what the step that serves its write stores, and where the words of the registers have
their fields (10_state.md R22 to R45, R54). -/

namespace Sys2Proof.Machine

variable {s : State} {rest : List Event} {a : BitVec 26} {r : Reg}

/-! ## The step that serves an access to a register -/

theorem regAt_range {off : Nat} (h : regAt off = some r) : off % 4 = 0 ∧ off < palBase := by
  unfold regAt at h
  split at h <;> cases h <;> decide

theorem locate_of_regAt (h : regAt a.toNat = some r) (p : Config.Params) :
    locate p a = some (.reg r) := by
  obtain ⟨halign, hpage⟩ := regAt_range h
  unfold locate
  rw [if_neg (by omega), if_pos hpage, h]
  rfl

theorem regAt_used {k : Nat} (hk : k < 8) :
    regAt (BitVec.ofNat 26 (0x080 + 4 * k)).toNat = some (.used k) := by
  revert k
  decide

theorem hostRead_resp_of_regAt (h : regAt a.toNat = some r) (s : State) :
    (hostRead a s).resp = some ⟨.okay, readReg s r⟩ := by
  unfold hostRead
  rw [locate_of_regAt h]
  dsimp only
  split <;> rfl

/-- A read that draws no free value changes nothing but the answer. -/
theorem hostRead_of_exact (h : regAt a.toNat = some r)
    (hexact : ¬ (s.busy = true ∧ r.openWhileBusy = true)) :
    hostRead a s = s.respond .okay (regWord s r) := by
  unfold hostRead readReg
  rw [locate_of_regAt h]
  dsimp only
  rw [if_neg hexact, if_neg fun hopen => hexact ⟨hopen.1, hopen.2.1⟩]

/-- While BUSY is 1 a result register reads as a free word of a new draw (10_state.md R54). -/
theorem hostRead_of_open (h : regAt a.toNat = some r) (hbusy : s.busy = true)
    (hopen : r.openWhileBusy = true) (hstatus : r ≠ .status) :
    hostRead a s = (s.respond .okay (Config.freeWord s.free)).draw := by
  unfold hostRead readReg
  rw [locate_of_regAt h]
  dsimp only
  rw [if_pos ⟨hbusy, hopen⟩, if_pos ⟨hbusy, hopen, hstatus⟩]

theorem step_read (hin : s.inputs = .read a :: rest) :
    step s = .next (hostRead a (s.setInputs rest)) := step_of_cons hin

theorem regWord_setInputs (s : State) (es : List Event) (r : Reg) :
    regWord (s.setInputs es) r = regWord s r := by
  cases r <;> rfl

theorem step_read_of_exact (hin : s.inputs = .read a :: rest) (h : regAt a.toNat = some r)
    (hexact : ¬ (s.busy = true ∧ r.openWhileBusy = true)) :
    step s = .next (answered s rest .okay (regWord s r)) := by
  rw [step_read hin, hostRead_of_exact (s := s.setInputs rest) h hexact, regWord_setInputs]
  rfl

theorem step_read_of_open (hin : s.inputs = .read a :: rest) (h : regAt a.toNat = some r)
    (hbusy : s.busy = true) (hopen : r.openWhileBusy = true) (hstatus : r ≠ .status) :
    step s = .next { answered s rest .okay (Config.freeWord s.free) with free := s.free + 1 } := by
  rw [step_read hin, hostRead_of_open (s := s.setInputs rest) h hbusy hopen hstatus]
  rfl

/-- A write to a register other than CMD answers OKAY, BUSY or not (40_control.md R130). -/
theorem step_write_of_regAt {v : Word} (hin : s.inputs = .write a v :: rest)
    (h : regAt a.toNat = some r) (hcmd : a ≠ cmdOffset) :
    step s = .next ((writeReg v (s.setInputs rest) r).respond .okay 0) := by
  rw [step_of_cons hin, serve_write_other hcmd]
  unfold hostWrite
  rw [locate_of_regAt h]

/-- The read-only registers other than STATUS and CMD (10_state.md R45). -/
def Reg.readOnly : Reg → Bool
  | .ctrl | .status | .cmd | .geom | .quality | .palbits | .transRgb => false
  | _ => true

theorem writeReg_of_readOnly (h : r.readOnly = true) (v : Word) (s : State) :
    writeReg v s r = s := by
  revert h
  cases r <;> simp [Reg.readOnly, writeReg]

/-! ## The words of the registers as numbers -/

theorem toNat_append_eq_add {m n : Nat} (hi : BitVec m) (lo : BitVec n) :
    (hi ++ lo).toNat = hi.toNat * 2 ^ n + lo.toNat := by
  rw [BitVec.toNat_append, ← Nat.shiftLeft_add_eq_or_of_lt lo.isLt, Nat.shiftLeft_eq]

theorem ctrlWord_eq (s : State) : s.ctrlWord =
    BitVec.ofNat 32 (s.doneIe.toNat + 2 * s.errIe.toNat + 4 * s.transEn.toNat) := by
  unfold State.ctrlWord
  cases s.doneIe <;> cases s.errIe <;> cases s.transEn <;> rfl

theorem geomWord_eq (w h : BitVec 16) :
    h ++ w = BitVec.ofNat 32 (w.toNat + 65536 * h.toNat) := by
  refine BitVec.eq_of_toNat_eq ?_
  rw [toNat_append_eq_add, BitVec.toNat_ofNat]
  omega

theorem colourWord_eq (c : RGB) : colourWord c =
    BitVec.ofNat 32 (65536 * c.r.toNat + 256 * c.g.toNat + c.b.toNat) := by
  refine BitVec.eq_of_toNat_eq ?_
  unfold colourWord
  rw [toNat_append_eq_add, toNat_append_eq_add, toNat_append_eq_add, BitVec.toNat_ofNat]
  have hzero : (0 : Byte).toNat = 0 := rfl
  omega

theorem pixCount_eq (s : State) :
    s.pixCount = BitVec.ofNat 32 (s.width.toNat * s.height.toNat) := by
  rw [← State.pixCount_toNat, BitVec.ofNat_toNat, BitVec.setWidth_eq]

/-! ## The fields of STATUS -/

theorem getLsbD_append_ofBool {n : Nat} (x : BitVec n) (b : Bool) (i : Nat) :
    (x ++ BitVec.ofBool b).getLsbD i = if i = 0 then b else x.getLsbD (i - 1) := by
  rw [BitVec.getLsbD_append]
  cases i <;> simp

theorem extractLsb'_append_ofBool {n : Nat} (x : BitVec n) (b : Bool) (i len : Nat) :
    (x ++ BitVec.ofBool b).extractLsb' (i + 1) len = x.extractLsb' i len :=
  BitVec.extractLsb'_append_eq_of_le (Nat.le_add_left 1 i)

/-- The six flags of STATUS stand in the bits 0 to 5 (10_state.md R24). -/
theorem statusFields_flags (palValid outValid : Bool) (s : State) :
    let d := s.statusFields palValid outValid
    d.getLsbD 0 = s.busy ∧ d.getLsbD 1 = s.done ∧ d.getLsbD 2 = s.err ∧
    d.getLsbD 3 = palValid ∧ d.getLsbD 4 = outValid ∧ d.getLsbD 5 = s.irq := by
  simp [State.statusFields, getLsbD_append_ofBool, -BitVec.getLsbD_eq_getElem]

/-- CUR_OP stands in the bits 8 to 11 of STATUS, and the bits 6, 7 and 12 to 31 are 0
(10_state.md R24). -/
theorem statusFields_curOp_reserved (palValid outValid : Bool) (s : State) :
    let d := s.statusFields palValid outValid
    d.extractLsb' 8 4 = s.curOp ∧ d.extractLsb' 6 2 = 0 ∧ d.extractLsb' 12 20 = 0 := by
  unfold State.statusFields
  simp only [extractLsb'_append_ofBool]
  refine ⟨?_, BitVec.extractLsb'_append_eq_right, ?_⟩
  · rw [BitVec.extractLsb'_append_eq_of_le (by decide)]
    exact BitVec.extractLsb'_append_eq_right
  · rw [BitVec.extractLsb'_append_eq_of_le (by decide)]
    exact BitVec.extractLsb'_append_eq_left

/-- STATUS reads its fields, with PAL_VALID and OUT_VALID exact while BUSY is 0. -/
theorem statusWord_eq_statusFields (s : State) : ∃ palValid outValid,
    s.statusWord = s.statusFields palValid outValid ∧
    (s.busy = false → palValid = s.palValid ∧ outValid = s.outValid) := by
  unfold State.statusWord
  cases s.busy
  · exact ⟨_, _, rfl, fun _ => ⟨rfl, rfl⟩⟩
  · exact ⟨_, _, rfl, nofun⟩

theorem readReg_status (s : State) : readReg s .status = s.statusWord := by
  simp [readReg, regWord]

/-! ## The statements -/

/-- Settles O20: STATUS is read as its fields, whose places two lemmas give. -/
theorem statusReadsItsFields : Obligations.StatusReadsItsFields := by
  intro s rest hin
  obtain ⟨palValid, outValid, hword, hexact⟩ := statusWord_eq_statusFields (s.setInputs rest)
  have hresp := hostRead_resp_of_regAt (a := 0x008) (r := .status) rfl (s.setInputs rest)
  rw [readReg_status, hword] at hresp
  obtain ⟨hbusy, hdone, herr, hpal, hout, hirq⟩ :=
    statusFields_flags palValid outValid (s.setInputs rest)
  obtain ⟨hop, hlow, hhigh⟩ := statusFields_curOp_reserved palValid outValid (s.setInputs rest)
  refine ⟨_, _, step_read hin, hresp, hbusy, hdone, herr, hirq, hop, hlow, hhigh, fun hb => ?_⟩
  obtain ⟨hpv, hov⟩ := hexact hb
  exact ⟨hpal.trans hpv, hout.trans hov⟩

/-- Settles O54: none of these registers is open while BUSY, and each word is its number. -/
theorem registerReads : Obligations.RegisterReads := by
  intro s rest p hp hin
  have hreg : ∃ r, regAt p.1.toNat = some r ∧ r.openWhileBusy = false ∧ regWord s r = p.2 := by
    clear hin
    revert p
    simp only [List.forall_mem_cons]
    exact ⟨⟨.id, rfl, rfl, rfl⟩, ⟨.ctrl, rfl, rfl, ctrlWord_eq s⟩, ⟨.cmd, rfl, rfl, rfl⟩,
      ⟨.errcode, rfl, rfl, by unfold regWord; cases s.errCode <;> rfl⟩,
      ⟨.errinfo, rfl, rfl, rfl⟩, ⟨.geom, rfl, rfl, geomWord_eq s.width s.height⟩,
      ⟨.quality, rfl, rfl, (BitVec.ofNat_toNat 32 s.quality).symm⟩,
      ⟨.palbits, rfl, rfl, (BitVec.ofNat_toNat 32 s.palBits).symm⟩,
      ⟨.transRgb, rfl, rfl, colourWord_eq s.transRgb⟩, ⟨.pixCount, rfl, rfl, pixCount_eq s⟩,
      ⟨.maxpix, rfl, rfl, rfl⟩, ⟨.outcap, rfl, rfl, rfl⟩, List.forall_mem_nil _⟩
  obtain ⟨r, hr, hclosed, hword⟩ := hreg
  rw [← hword]
  exact step_read_of_exact hin hr (by simp [hclosed])

/-- Settles O55: the three result registers are open while BUSY, and not STATUS. -/
theorem resultRegisterReads : Obligations.ResultRegisterReads := by
  intro s rest k hk p hp hin
  have hreg : ∃ r, regAt p.1.toNat = some r ∧ r.openWhileBusy = true ∧ r ≠ .status ∧
      regWord s r = p.2 := by
    clear hin
    revert p
    simp only [List.forall_mem_cons]
    exact ⟨⟨.transIndex, rfl, rfl, nofun, (BitVec.ofNat_toNat 32 s.transIndex).symm⟩,
      ⟨.outLen, rfl, rfl, nofun, (BitVec.ofNat_toNat 32 s.outLen).symm⟩,
      ⟨.used k, regAt_used hk, rfl, nofun, rfl⟩, List.forall_mem_nil _⟩
  obtain ⟨r, hr, hopen, hstatus, hword⟩ := hreg
  rw [← hword]
  exact ⟨fun hidle => step_read_of_exact hin hr (by simp [hidle]),
    fun hbusy => step_read_of_open hin hr hbusy hopen hstatus⟩

/-- Settles O53: the stored fields of each write are those of `writeReg`. -/
theorem configurationWrites : Obligations.ConfigurationWrites := fun _ _ _ =>
  ⟨fun hin => step_write_of_regAt (r := .ctrl) hin rfl (by decide),
    fun hin => step_write_of_regAt (r := .geom) hin rfl (by decide),
    fun hin => step_write_of_regAt (r := .quality) hin rfl (by decide),
    fun hin => step_write_of_regAt (r := .palbits) hin rfl (by decide),
    fun hin => step_write_of_regAt (r := .transRgb) hin rfl (by decide)⟩

/-- Settles O56: each of the offsets is a read-only register's, whose write stores nothing. -/
theorem readOnlyWritesAreIgnored : Obligations.ReadOnlyWritesAreIgnored := by
  intro s v rest a ha hin
  have hreg : a ≠ cmdOffset ∧ (regAt a.toNat).any Reg.readOnly = true := by
    fin_cases ha <;> decide
  obtain ⟨hcmd, hany⟩ := hreg
  obtain ⟨r, hr, hro⟩ := (Option.any_eq_true ..).1 hany
  rw [step_write_of_regAt hin hr hcmd, writeReg_of_readOnly hro]
  rfl

end Sys2Proof.Machine
end

section
/-! What a step can do to BUSY, PAL_VALID, USED and the capacities, by four kinds of step: the
acceptance of a command, the completion, the reset input, and every other (10_state.md R25, R28,
R42, R43, R49). -/

namespace Sys2Proof.Machine

variable {s t : State} {i : Instr}

/-! ## The command a legal word selects (30_encoding.md R91) -/

theorem op_toNat_of_decodeOp {n : Nat} (h : decodeOp n = .ok i) : i.op.toNat = n := by
  unfold decodeOp at h
  split at h <;> cases h <;> rfl

theorem rsvd_append_op (v : Word) : CmdWord.rsvd v ++ CmdWord.op v = v :=
  BitVec.extractLsb'_append_extractLsb'_eq_extractLsb' (start₁ := 0) rfl |>.trans
    (BitVec.extractLsb'_eq_self)

theorem eq_encode_of_decode {v : Word} (h : decode v = .ok i) : v = encode i := by
  unfold decode at h
  split at h
  · rename_i hrsvd
    have hop : CmdWord.op v = i.op := BitVec.eq_of_toNat_eq (op_toNat_of_decodeOp h).symm
    rw [encode, ← hop, ← hrsvd, rsvd_append_op]
  · cases h

/-! ## The steps that neither start nor end a BUSY period -/

/-- What such a step keeps: the capacities, USED and the running command; and PAL_VALID, which it
may set but not clear. -/
structure KeepsBusyPeriod (s t : State) : Prop where
  params : t.params = s.params
  used : t.used = s.used
  running : t.running = s.running
  palValid : s.palValid = true → t.palValid = true

theorem KeepsBusyPeriod.busy (h : KeepsBusyPeriod s t) : t.busy = s.busy := by
  unfold State.busy
  rw [h.running]

theorem keepsBusyPeriod_hostRead (a : BitVec 26) (s : State) :
    KeepsBusyPeriod s (hostRead a s) := by
  obtain ⟨r, d, h | h⟩ := hostRead_cases a s <;> rw [h] <;> exact ⟨rfl, rfl, rfl, id⟩

theorem keepsBusyPeriod_writeReg (v : Word) (s : State) (r : Reg) :
    KeepsBusyPeriod s (writeReg v s r) := by
  rcases writeReg_cases v s r with h | h | h | h | h | h | h <;> rw [h] <;> constructor <;> simp

theorem keepsBusyPeriod_hostWrite (a : BitVec 26) (v : Word) (s : State) :
    KeepsBusyPeriod s (hostWrite a v s) := by
  rcases hostWrite_cases a v s with h | ⟨r, h⟩ | ⟨-, k, -, h⟩ | ⟨-, p, -, -, h⟩ |
    ⟨-, w, -, -, h⟩ <;> rw [h]
  case inr.inl => exact { keepsBusyPeriod_writeReg v s r with }
  all_goals constructor <;> simp

theorem keepsBusyPeriod_recordError (code : ErrCode) (info : Word) (s : State) :
    KeepsBusyPeriod s (s.recordError code info) := ⟨rfl, rfl, rfl, id⟩

/-- A failed precondition ends the command at its acceptance, so BUSY stays 0. -/
theorem keepsBusyPeriod_failed (h : s.busy = false) (code : ErrCode) (info : Word) :
    KeepsBusyPeriod s ((s.accept i).recordError code info).finish :=
  ⟨rfl, rfl, ((State.busy_eq_false_iff s).1 h).symm, id⟩

/-- Everything presenting a word can do: it keeps the running command, or it runs an accepted
command's body. -/
theorem presentCommand_busyPeriod_cases {v : Word} (h : presentCommand v s = .next t) :
    KeepsBusyPeriod s t ∨
    (s.busy = false ∧ ∃ i, v = encode i ∧ t = bodyOf i s.snapshot (s.accept i)) := by
  rcases presentCommand_cases h with ⟨i, hv, hi⟩ | ⟨-, -, ⟨-, rfl⟩ | ⟨-, rfl⟩⟩
  · rw [exec_eq_issue] at hi
    rcases issue_cases hi with ⟨-, rfl⟩ | ⟨hb, e, -, rfl⟩ | ⟨hb, -, rfl⟩
    · exact .inl (keepsBusyPeriod_recordError _ _ s)
    · exact .inl (keepsBusyPeriod_failed hb e.code e.info)
    · exact .inr ⟨hb, i, eq_encode_of_decode hv, rfl⟩
  · exact .inl (keepsBusyPeriod_recordError _ _ s)
  · exact .inl (keepsBusyPeriod_recordError _ _ s)

/-- Everything a step can do: it keeps the running command, completes it, serves the reset input, or
runs an accepted command's body. -/
theorem step_busyPeriod_cases (h : step s = .next t) :
    KeepsBusyPeriod s t ∨
    ((s.inputs = [] ∨ ∃ rest, s.inputs = .complete :: rest) ∧ ∃ es, t = (s.setInputs es).complete) ∨
    (∃ rest, s.inputs = .reset :: rest ∧ t = resetInput (s.setInputs rest)) ∨
    (s.busy = false ∧ ∃ i rest, s.inputs = .write cmdOffset (encode i) :: rest ∧
      t = bodyOf i s.snapshot ((answered s rest .okay 0).accept i)) := by
  rcases step_cases h with ⟨hin, rfl⟩ | ⟨e, rest, hin, hserve⟩
  · exact .inr (.inl ⟨.inl hin, s.inputs, rfl⟩)
  · rcases hserve with ⟨a, rfl, rfl⟩ | ⟨a, v, rfl, -, rfl⟩ | ⟨v, rfl, hv⟩ | ⟨rfl, rfl⟩ | ⟨rfl, rfl⟩
    · exact .inl { keepsBusyPeriod_hostRead a (s.setInputs rest) with }
    · exact .inl { keepsBusyPeriod_hostWrite a v (s.setInputs rest) with }
    · rcases presentCommand_busyPeriod_cases hv with hk | ⟨hb, i, rfl, rfl⟩
      · exact .inl { hk with }
      · exact .inr (.inr (.inr ⟨hb, i, rest, hin, rfl⟩))
    · exact .inr (.inl ⟨.inr ⟨rest, hin⟩, rest, rfl⟩)
    · exact .inr (.inr (.inl ⟨rest, hin, rfl⟩))

/-! ## What the bodies of the commands do to the same fields -/

theorem bodyOf_params (i : Instr) (c : Snapshot) (s : State) :
    (bodyOf i c s).params = s.params := by
  cases i <;> simp [bodyOf, nopBody, softResetBody]

theorem bodyOf_palValid (hi : i ≠ .softReset) (c : Snapshot) (h : s.palValid = true) :
    (bodyOf i c s).palValid = true := by
  cases i <;> simp [bodyOf, nopBody, h] at hi ⊢

theorem bodyOf_used (hi : i = .nop ∨ i = .transFind ∨ i = .compress) (c : Snapshot) (s : State) :
    (bodyOf i c s).used = s.used := by
  rcases hi with rfl | rfl | rfl <;> simp [bodyOf, nopBody]

theorem bodyOf_curOp (hi : i ≠ .softReset) (c : Snapshot) (s : State) :
    (bodyOf i c s).curOp = s.curOp := by
  cases i <;> simp [bodyOf, nopBody] at hi ⊢

theorem bodyOf_busy (hi : i = .nop ∨ i = .softReset) (c : Snapshot) (s : State) :
    (bodyOf i c s).busy = false := by
  rw [State.busy_eq_false_iff]
  rcases hi with rfl | rfl <;> simp [bodyOf, nopBody, softResetBody, State.reset]

/-! ## The end of a BUSY period (40_control.md R125) -/

theorem complete_busy (s : State) : s.complete.busy = false := by simp [State.busy]

theorem complete_done (h : s.busy = true) : s.complete.done = true := by
  obtain ⟨r, hr⟩ := (State.busy_eq_true_iff s).1 h
  cases he : r.error with
  | none => rw [State.complete_of_success hr he]; rfl
  | some e => rw [State.complete_of_error hr he]; rfl

/-! ## The statements -/

/-- Settles O13, by the kind of step. -/
theorem capacitiesNeverChange : Obligations.CapacitiesNeverChange := by
  intro s t h
  rcases step_busyPeriod_cases h with hk | ⟨-, es, rfl⟩ | ⟨rest, -, rfl⟩ | ⟨-, i, rest, -, rfl⟩
  · exact hk.params
  · simp
  · rfl
  · rw [bodyOf_params]
    rfl

/-- Settles O11: of the commands' bodies only SOFT_RESET's clears PAL_VALID. -/
theorem paletteValidClearedOnlyByResets : Obligations.PaletteValidClearedOnlyByResets := by
  intro s t h hset hclear
  rcases step_busyPeriod_cases h with hk | ⟨-, es, rfl⟩ | ⟨rest, hin, -⟩ |
    ⟨hb, i, rest, hin, rfl⟩
  · exact absurd (hk.palValid hset) (by simp [hclear])
  · simp [hset] at hclear
  · exact .inl ⟨rest, hin⟩
  · by_cases hi : i = .softReset
    · subst hi
      exact .inr ⟨hb, rest, hin⟩
    · rw [bodyOf_palValid (s := (answered s rest .okay 0).accept i) hi _ hset] at hclear
      cases hclear

/-- Settles O12: the bodies of NOP, TRANS_FIND and COMPRESS keep USED, and so does every step without
a body. -/
theorem usedChangesOnlyByItsWriters : Obligations.UsedChangesOnlyByItsWriters := by
  intro s t h hne
  rcases step_busyPeriod_cases h with hk | ⟨-, es, rfl⟩ | ⟨rest, hin, -⟩ |
    ⟨hb, i, rest, hin, rfl⟩
  · exact absurd hk.used hne
  · exact absurd (State.complete_used _) hne
  · exact .inl ⟨rest, hin⟩
  · refine .inr ⟨hb, i, rest, hin, ?_⟩
    by_contra hi
    refine hne (bodyOf_used ?_ s.snapshot _)
    cases i <;> simp at hi ⊢

/-- Settles O10: BUSY changes only where a body runs, at the completion and at the reset input. -/
theorem busyPeriodBoundaries : Obligations.BusyPeriodBoundaries := by
  intro s t h
  rcases step_busyPeriod_cases h with hk | ⟨hin, es, rfl⟩ | ⟨rest, hin, rfl⟩ |
    ⟨hb, i, rest, hin, rfl⟩
  · rw [hk.busy]
    constructor <;> intro hb ht <;> simp [hb] at ht
  · exact ⟨fun _ h' => by simp [complete_busy] at h', fun hb _ => .inl ⟨hin, complete_done hb⟩⟩
  · exact ⟨fun _ => nofun, fun _ _ => .inr ⟨rest, hin⟩⟩
  · refine ⟨fun _ ht => ?_, fun hb' => by simp [hb] at hb'⟩
    have hi : ¬ (i = .nop ∨ i = .softReset) := fun hi => by simp [bodyOf_busy hi] at ht
    rw [not_or] at hi
    exact ⟨i, rest, hin, hi.1, hi.2, bodyOf_curOp hi.2 _ _⟩

end Sys2Proof.Machine
end

section
/-! Where a command writes memory, phase by phase, and that it leaves the configuration and the
model's own fields alone (10_state.md R46; 30_encoding.md R93). -/

namespace Sys2Proof.Machine

variable {s t u : State} {i : Instr} {c : Snapshot} {stored stored' : Nat → Prop}

/-! ## Memory frames -/

theorem memSameBut_of_mem_eq (h : t.mem = s.mem) : memSameBut stored s t := fun a _ => by rw [h]

theorem memSameBut.trans (h : memSameBut stored s t) (h' : memSameBut stored t u) :
    memSameBut stored s u := fun a ha => (h' a ha).trans (h a ha)

theorem memSameBut.mono (h : memSameBut stored s t) (hle : ∀ a, stored a → stored' a) :
    memSameBut stored' s t := fun a ha => h a fun hs => ha (hle a hs)

/-- A phase that starts after a state with the same memory has the same frame. -/
theorem memSameBut.of_mem_eq (h : memSameBut stored t u) (hm : t.mem = s.mem) :
    memSameBut stored s u := (memSameBut_of_mem_eq hm).trans h

/-! ## The memory a phase writes -/

theorem trainPhase_memSameBut (c : Snapshot) (s : State) :
    memSameBut inPalmem s (trainPhase c s) := by
  intro a ha
  rw [trainPhase_mem]
  refine Memory.read_writeColours_other _ _ _ _ ?_
  rw [paletteOf_trainingOf_length]
  unfold inPalmem palBase palEnd at ha
  unfold palAddr palBase
  omega

theorem mapPhase_memSameBut (c : Snapshot) (s : State) :
    memSameBut (inIdx c.n.toNat) s (mapPhase c s) := by
  intro a ha
  rw [mapPhase_mem, Memory.read_writeBytes, mappedIndices_length]
  refine if_neg fun h => ha ⟨h.1, ?_⟩
  unfold idxAddr at h ⊢
  omega

theorem transFindPhase_memSameBut (c : Snapshot) (s : State) :
    memSameBut stored s (transFindPhase c s) := memSameBut_of_mem_eq rfl

theorem openOutput_memSameBut (s : State) : memSameBut inOutmem s (openOutput s) :=
  fun _ ha => Memory.read_openOut_below (Nat.lt_of_not_le ha) s.mem s.free

theorem compressPhase_memSameBut (d : Nat) (c : Snapshot) (s : State) :
    memSameBut inOutmem s (compressPhase d c s) := by
  refine (openOutput_memSameBut s).trans fun a ha => ?_
  rcases compressPhase_cases d c s with ⟨p, -, h⟩ | ⟨-, -, h⟩ | ⟨-, -, h⟩ <;> rw [h]
  · simp
  · simp
  · rw [State.setOutput_mem, State.setMem_mem, Memory.read_writeBytes, openOutput_mem]
    exact if_neg fun h => ha h.1

theorem softResetBody_memSameBut (c : Snapshot) (s : State) :
    memSameBut inPalmem s (softResetBody c s) :=
  fun a ha => (Memory.read_clearPalette s.mem a).trans (if_neg ha)

/-- Everything a command writes: PALMEM, IDXMEM and OUTMEM. -/
def inCommandMem (a : Nat) : Prop := inPalmem a ∨ idxBase ≤ a

theorem inCommandMem_of_inIdx {n a : Nat} (h : inIdx n a) : inCommandMem a := .inr h.1

theorem inCommandMem_of_inOutmem {a : Nat} (h : inOutmem a) : inCommandMem a :=
  .inr (Nat.le_trans (by decide) h)

theorem bodyOf_memSameBut (i : Instr) (c : Snapshot) (s : State) :
    memSameBut inCommandMem s (bodyOf i c s) := by
  have htrain : memSameBut inCommandMem s (trainPhase c s) :=
    (trainPhase_memSameBut c s).mono fun _ => .inl
  have hmap : ∀ u, memSameBut inCommandMem u (mapPhase c u) := fun u =>
    (mapPhase_memSameBut c u).mono fun _ => inCommandMem_of_inIdx
  have hcompress : ∀ d u, memSameBut inCommandMem u (compressPhase d c u) := fun d u =>
    (compressPhase_memSameBut d c u).mono fun _ => inCommandMem_of_inOutmem
  cases i with
  | nop => exact memSameBut_of_mem_eq (State.complete_mem s)
  | softReset => exact (softResetBody_memSameBut c s).mono fun _ => .inl
  | train => exact htrain
  | map => exact hmap s
  | transFind => exact transFindPhase_memSameBut c s
  | compress => exact hcompress _ s
  | quantize => exact htrain.trans (hmap _)
  | frame =>
    exact (htrain.trans (hmap _)).trans
      ((hcompress 8 _).of_mem_eq (frameTransparency_mem c _))

/-- PIXMEM lies between PALMEM and IDXMEM, so no command writes it (20_memory.md R71). -/
theorem pixel_eq_of_memSameBut (h : memSameBut inCommandMem s t) {p : Nat} (hp : p < 2 ^ 22) :
    t.mem.pixel p = s.mem.pixel p := by
  refine Memory.readColour_congr fun d hd => h _ ?_
  unfold inCommandMem inPalmem pixAddr palBase palEnd pixBase idxBase
  omega

/-! ## The fields a command leaves alone -/

theorem bodyOf_samePort (i : Instr) (c : Snapshot) (s : State) : samePort s (bodyOf i c s) := by
  cases i <;> simp [samePort, bodyOf, nopBody, softResetBody]

theorem bodyOf_sameConfig (hi : i ≠ .softReset) (c : Snapshot) (s : State) :
    sameConfig s (bodyOf i c s) := by
  cases i <;> simp [sameConfig, bodyOf, nopBody] at hi ⊢

/-- Settles O14: a rejected word and a failed precondition write no memory, and the body of each
command has its frame. -/
theorem commandsKeepPixelsAndConfiguration : Obligations.CommandsKeepPixelsAndConfiguration := by
  intro i s t h
  rw [exec_eq_issue] at h
  rcases issue_cases h with ⟨-, rfl⟩ | ⟨-, e, -, rfl⟩ | ⟨-, -, rfl⟩
  · exact ⟨fun _ _ => rfl, ⟨rfl, rfl⟩, fun _ => ⟨rfl, rfl, rfl, rfl, rfl, rfl, rfl, rfl, rfl⟩⟩
  · exact ⟨fun _ _ => rfl, ⟨rfl, rfl⟩, fun _ => ⟨rfl, rfl, rfl, rfl, rfl, rfl, rfl, rfl, rfl⟩⟩
  · exact ⟨fun _ hp => pixel_eq_of_memSameBut (bodyOf_memSameBut i s.snapshot (s.accept i)) hp,
      bodyOf_samePort i s.snapshot (s.accept i),
      fun hi => bodyOf_sameConfig hi s.snapshot (s.accept i)⟩

end Sys2Proof.Machine
end

section
/-! A second write of the same bytes changes nothing in a canonical memory (20_memory.md R82). Two
memories that read alike may differ in the cells they list, so the argument is about the list. -/

namespace Sys2Proof.Machine

theorem mem_of_findCell {a : Nat} {v : Byte} {l : List Host.Cell}
    (h : findCell a l = some v) : (a, v) ∈ l := by
  induction l with
  | nil => cases h
  | cons c cs ih =>
    unfold findCell at h
    split at h
    · rename_i heq
      cases h
      subst heq
      exact List.mem_cons_self
    · exact List.mem_cons_of_mem _ (ih h)

theorem ne_of_findCell_none {a : Nat} {l : List Host.Cell} (h : findCell a l = none) :
    ∀ c ∈ l, c.1 ≠ a := by
  induction l with
  | nil => simp
  | cons c cs ih =>
    unfold findCell at h
    split at h
    · cases h
    · rename_i hne
      exact List.forall_mem_cons.2 ⟨Ne.symm hne, ih h⟩

/-- A listed cell is put back in its place. -/
theorem putCell_of_mem {a : Nat} {v : Byte} {l : List Host.Cell}
    (hrise : l.Pairwise (fun c d => c.1 < d.1)) (h : (a, v) ∈ l) : putCell a v l = l := by
  induction l with
  | nil => cases h
  | cons c cs ih =>
    obtain ⟨hc, hcs⟩ := List.pairwise_cons.1 hrise
    unfold putCell
    rcases List.mem_cons.1 h with rfl | hmem
    · rw [if_neg (Nat.lt_irrefl a), if_pos rfl]
    · have hlt : c.1 < a := hc _ hmem
      rw [if_neg (by omega), if_neg (by omega), ih hcs hmem]

namespace Memory

variable {m : Memory} {a b : Nat} {v w : Byte}

/-- The list of cells already has the byte as a write would leave it: a reset value unlisted, and
any other byte listed. -/
def Stores (m : Memory) (a : Nat) (v : Byte) : Prop :=
  findCell a m.cells = if resetByte a = some v then none else some v

theorem stores_write_same (m : Memory) (a : Nat) (v : Byte) : (m.write a v).Stores a v := by
  unfold Stores write
  split
  · exact findCell_filter_none _ (by simp)
  · exact findCell_putCell_same a v _

theorem Stores.write_other (h : m.Stores b w) (hne : b ≠ a) (v : Byte) :
    (m.write a v).Stores b w := by
  refine Eq.trans ?_ h
  unfold write
  split
  · exact findCell_filter _ (by simp [hne])
  · exact findCell_putCell_other hne v _

theorem Stores.writeBytes_after (h : m.Stores b w) (hlt : b < a) (vs : List Byte) :
    (m.writeBytes a vs).Stores b w := by
  induction vs generalizing m a with
  | nil => exact h
  | cons v vs ih => exact ih (h.write_other (Nat.ne_of_lt hlt) v) (Nat.lt_succ_of_lt hlt)

theorem Stores.write_eq_self (hwf : m.wf) (h : m.Stores a v) : m.write a v = m := by
  obtain ⟨hrise, -⟩ := hwf
  unfold Stores at h
  unfold write
  split at h <;> rename_i hreset
  · have hkeep : m.cells.filter (fun c => c.1 ≠ a) = m.cells :=
      List.filter_eq_self.2 (by simpa using ne_of_findCell_none h)
    rw [if_pos hreset, hkeep]
  · rw [if_neg hreset, putCell_of_mem hrise (mem_of_findCell h)]

/-- Bytes written twice to the same addresses are written once. -/
theorem writeBytes_writeBytes_same (hwf : m.wf) (a : Nat) (vs : List Byte) :
    (m.writeBytes a vs).writeBytes a vs = m.writeBytes a vs := by
  induction vs generalizing m a with
  | nil => rfl
  | cons v vs ih =>
    have hwf1 : (m.write a v).wf := wf_write hwf a v
    have hfirst : ((m.write a v).writeBytes (a + 1) vs).write a v =
        (m.write a v).writeBytes (a + 1) vs :=
      ((stores_write_same m a v).writeBytes_after (Nat.lt_succ_self a) vs).write_eq_self
        (wf_writeBytes vs hwf1 (a + 1))
    simp only [writeBytes]
    rw [hfirst, ih hwf1]

theorem writeColour_eq_writeBytes (m : Memory) (a : Nat) (c : RGB) :
    m.writeColour a c = m.writeBytes a [c.b, c.g, c.r] := rfl

theorem writeColour_writeColour_same (hwf : m.wf) (a : Nat) (c : RGB) :
    (m.writeColour a c).writeColour a c = m.writeColour a c := by
  simpa only [writeColour_eq_writeBytes] using writeBytes_writeBytes_same hwf a [c.b, c.g, c.r]

end Memory

end Sys2Proof.Machine
end

section
/-! Accesses to the memory windows: which accesses answer SLVERR, what an access to a valid slot
reads and stores, and that a second identical write changes nothing (20_memory.md R73 to R82). -/

namespace Sys2Proof.Machine

variable {s t : State} {rest : List Event} {a : BitVec 26} {v : Word} {p : Config.Params}
  {tgt : Target}

/-! ## The offsets that answer SLVERR (20_memory.md R74) -/

theorem mem_namedOffsets_of_regAt {off : Nat} {r : Reg} (h : regAt off = some r) :
    off ∈ namedOffsets := by
  unfold regAt at h
  split at h <;> cases h <;> decide

theorem locate_of_invalidOffset (h : invalidOffset p a.toNat) : locate p a = none := by
  by_contra hne
  obtain ⟨tgt, htgt⟩ := Option.ne_none_iff_exists'.1 hne
  have ha := a.isLt
  unfold invalidOffset at h
  rcases locate_valid htgt with ⟨r, -, hr⟩ | ⟨k, -, hk, hoff⟩ | ⟨i, -, hi, hi', hoff⟩ |
    ⟨w, -, hw, hw', hoff⟩ | ⟨w, -, hw, hw', hoff⟩
  case inl =>
    obtain ⟨-, hpage⟩ := regAt_range hr
    unfold palBase at hpage
    rcases h with ⟨-, hunnamed⟩ | h
    · exact hunnamed (mem_namedOffsets_of_regAt hr)
    · omega
  all_goals
    simp only [palAddr, pixAddr, idxAddr, outAddr, palBase, pixBase, idxBase, outBase] at hoff
    omega

/-- Above the register page nothing selects a register. -/
theorem not_reg_of_windowOffset (h : locate p a = some tgt) (hoff : windowOffset a.toNat)
    (r : Reg) : tgt ≠ .reg r := by
  rintro rfl
  unfold windowOffset at hoff
  rcases locate_valid h with ⟨r', -, hr⟩ | ⟨k, h, -⟩ | ⟨i, h, -⟩ | ⟨w, h, -⟩ | ⟨w, h, -⟩
  · obtain ⟨-, hpage⟩ := regAt_range hr
    unfold palBase at hpage
    omega
  all_goals cases h

/-- From the base of OUTMEM on only words of OUTMEM are selected. -/
theorem eq_out_of_outBase_le (h : locate p a = some tgt) (hoff : 0x3000000 ≤ a.toNat) :
    ∃ w, tgt = .out w := by
  rcases locate_valid h with ⟨r, -, hr⟩ | ⟨k, -, hk, hk'⟩ | ⟨i, -, -, hi, hi'⟩ |
    ⟨w, -, -, hw, hw'⟩ | ⟨w, hw, -⟩
  case inl =>
    obtain ⟨-, hpage⟩ := regAt_range hr
    unfold palBase at hpage
    omega
  case inr.inr.inr.inr => exact ⟨w, hw⟩
  all_goals
    simp only [palAddr, pixAddr, idxAddr, palBase, pixBase, idxBase] at *
    omega

/-! ## Accepted and refused accesses -/

/-- The targets that answer a read: the registers always, the windows while BUSY is 0. -/
def Target.takesRead (busy : Bool) : Target → Bool
  | .reg _ => true
  | _ => !busy

/-- The targets that take a write: the registers always, OUTMEM never (20_memory.md R80), and the
other windows while BUSY is 0. -/
def Target.takesWrite (busy : Bool) : Target → Bool
  | .reg _ => true
  | .out _ => false
  | _ => !busy

/-- While BUSY is 1 a window takes neither reads nor writes. -/
theorem refuses_of_window_busy (hl : locate p a = some tgt) (hoff : windowOffset a.toNat) :
    tgt.takesRead true = false ∧ tgt.takesWrite true = false := by
  have hreg := not_reg_of_windowOffset hl hoff
  cases tgt with
  | reg r => exact absurd rfl (hreg r)
  | _ => exact ⟨rfl, rfl⟩

theorem hostRead_of_refused
    (h : ∀ tgt, locate s.params a = some tgt → tgt.takesRead s.busy = false) :
    hostRead a s = s.busError := by
  unfold hostRead
  cases hl : locate s.params a with
  | none => rfl
  | some tgt =>
    have hno := h tgt hl
    cases tgt with
    | reg r => cases hno
    | _ => exact if_pos (by simpa [Target.takesRead] using hno)

theorem hostWrite_of_refused
    (h : ∀ tgt, locate s.params a = some tgt → tgt.takesWrite s.busy = false) (v : Word) :
    hostWrite a v s = s.busError := by
  unfold hostWrite
  cases hl : locate s.params a with
  | none => rfl
  | some tgt =>
    have hno := h tgt hl
    cases tgt with
    | reg r => cases hno
    | out w => rfl
    | _ => exact if_pos (by simpa [Target.takesWrite] using hno)

theorem hostWrite_of_takesWrite (hl : locate s.params a = some tgt)
    (h : tgt.takesWrite s.busy = true) (v : Word) :
    hostWrite a v s = (writeWindow v s tgt).respond .okay 0 := by
  unfold hostWrite
  rw [hl]
  cases tgt with
  | reg r => rfl
  | out w => cases h
  | _ => exact if_neg (by simpa [Target.takesWrite] using h)

theorem takesWrite_or_refused (s : State) (a : BitVec 26) :
    (∃ tgt, locate s.params a = some tgt ∧ tgt.takesWrite s.busy = true) ∨
    ∀ tgt, locate s.params a = some tgt → tgt.takesWrite s.busy = false := by
  by_cases h : ∃ tgt, locate s.params a = some tgt ∧ tgt.takesWrite s.busy = true
  · exact .inl h
  · exact .inr fun tgt hl => Bool.eq_false_iff.2 fun htake => h ⟨tgt, hl, htake⟩

theorem hostRead_window_of_idle (hl : locate s.params a = some tgt) (hreg : ∀ r, tgt ≠ .reg r)
    (hidle : s.busy = false) : hostRead a s = s.respond .okay (readWindow s tgt) := by
  unfold hostRead
  rw [hl]
  cases tgt with
  | reg r => exact absurd rfl (hreg r)
  | _ => exact if_neg (by simp [hidle])

/-! ## The step that serves an access -/

theorem step_write (hin : s.inputs = .write a v :: rest) (hcmd : a ≠ cmdOffset) :
    step s = .next (hostWrite a v (s.setInputs rest)) := by
  rw [step_of_cons hin, serve_write_other hcmd]

theorem step_read_of_refused (hin : s.inputs = .read a :: rest)
    (h : ∀ tgt, locate s.params a = some tgt → tgt.takesRead s.busy = false) :
    step s = .next (answered s rest .slverr 0) := by
  rw [step_read hin, hostRead_of_refused (s := s.setInputs rest) h]
  rfl

theorem step_write_of_refused (hin : s.inputs = .write a v :: rest)
    (h : ∀ tgt, locate s.params a = some tgt → tgt.takesWrite s.busy = false) :
    step s = .next (answered s rest .slverr 0) := by
  have hcmd : a ≠ cmdOffset := by
    rintro rfl
    cases h (.reg .cmd) rfl
  rw [step_write hin hcmd, hostWrite_of_refused (s := s.setInputs rest) h]
  rfl

theorem step_read_window (hin : s.inputs = .read a :: rest) (hl : locate s.params a = some tgt)
    (hreg : ∀ r, tgt ≠ .reg r) (hidle : s.busy = false) :
    step s = .next (answered s rest .okay (readWindow s tgt)) := by
  rw [step_read hin, hostRead_window_of_idle (s := s.setInputs rest) hl hreg hidle]
  cases tgt with
  | reg r => exact absurd rfl (hreg r)
  | _ => rfl

theorem step_write_window (hin : s.inputs = .write a v :: rest)
    (hl : locate s.params a = some tgt) (hreg : ∀ r, tgt ≠ .reg r)
    (hidle : s.busy = false) (h : tgt.takesWrite false = true) :
    step s = .next ((writeWindow v (s.setInputs rest) tgt).respond .okay 0) := by
  have hcmd : a ≠ cmdOffset := by
    rintro rfl
    exact hreg .cmd (Option.some.inj hl).symm
  rw [← hidle] at h
  rw [step_write hin hcmd, hostWrite_of_takesWrite (s := s.setInputs rest) hl h v]

/-! ## The memory after a write -/

/-- A stored colour changes the three bytes of its word only. -/
theorem memSameBut_writeColour {n : Nat} {c : RGB} (h : t.mem = s.mem.writeColour n c) :
    memSameBut (fun b => n ≤ b ∧ b < n + 3) s t := by
  intro b hb
  rw [h, Memory.read_writeColour, if_neg (by omega), if_neg (by omega), if_neg (by omega)]

/-! ## The bytes of a word (20_memory.md R75, R77) -/

theorem groupWord_extractLsb' (f : Nat → Byte) {b : Nat} (hb : b < 4) :
    (groupWord (f 0) (f 1) (f 2) (f 3)).extractLsb' (8 * b) 8 = f b := by
  unfold groupWord
  interval_cases b
  · exact BitVec.extractLsb'_append_eq_right
  · rw [BitVec.extractLsb'_append_eq_of_le (by decide)]
    exact BitVec.extractLsb'_append_eq_right
  · rw [BitVec.extractLsb'_append_eq_of_le (by decide),
      BitVec.extractLsb'_append_eq_of_le (by decide)]
    exact BitVec.extractLsb'_append_eq_right
  · rw [BitVec.extractLsb'_append_eq_of_le (by decide),
      BitVec.extractLsb'_append_eq_of_le (by decide)]
    exact BitVec.extractLsb'_append_eq_left

theorem idxBytes_getD {w b : Nat} (hb : b < 4) (hcell : 4 * w + b < p.maxPixels) (v : Word) :
    (idxBytes p w v).getD b 0 = wordByte v b := by
  have htake : b < p.maxPixels - 4 * w := by omega
  unfold idxBytes
  rw [List.getD_eq_getElem?_getD, List.getElem?_take_of_lt htake]
  interval_cases b <;> rfl

/-- Every byte of memory after a word was written to IDXMEM. -/
theorem read_writeBytes_idxBytes (m : Memory) (w n : Nat) (v : Word) :
    (∀ b, b < 4 → 4 * w + b < p.maxPixels → n = idxAddr (4 * w + b) →
      (m.writeBytes (idxAddr (4 * w)) (idxBytes p w v)).read n = wordByte v b) ∧
    ((¬ ∃ b, b < 4 ∧ 4 * w + b < p.maxPixels ∧ n = idxAddr (4 * w + b)) →
      (m.writeBytes (idxAddr (4 * w)) (idxBytes p w v)).read n = m.read n) := by
  rw [Memory.read_writeBytes, idxBytes_length]
  unfold idxAddr
  constructor
  · rintro b hb hcell rfl
    rw [if_pos (by omega), show idxBase + (4 * w + b) - (idxBase + 4 * w) = b by omega,
      idxBytes_getD hb hcell]
  · intro hout
    exact if_neg fun hin => hout ⟨n - (idxBase + 4 * w), by omega, by omega, by omega⟩

/-! ## A second identical write -/

theorem writeStatus_setInputs (v : Word) (s : State) (es : List Event) :
    (s.setInputs es).writeStatus v = (s.writeStatus v).setInputs es := by
  unfold State.writeStatus
  cases v.getLsbD 1 <;> cases v.getLsbD 2 <;> rfl

theorem writeReg_setInputs (v : Word) (s : State) (es : List Event) (r : Reg) :
    writeReg v (s.setInputs es) r = (writeReg v s r).setInputs es := by
  cases r with
  | status => exact writeStatus_setInputs v s es
  | _ => rfl

theorem writeWindow_setInputs (v : Word) (s : State) (es : List Event) (tgt : Target) :
    writeWindow v (s.setInputs es) tgt = (writeWindow v s tgt).setInputs es := by
  cases tgt with
  | reg r => exact writeReg_setInputs v s es r
  | _ => rfl

/-- A write does not depend on the events to come. -/
theorem hostWrite_setInputs (a : BitVec 26) (v : Word) (s : State) (es : List Event) :
    hostWrite a v (s.setInputs es) = (hostWrite a v s).setInputs es := by
  rcases takesWrite_or_refused s a with ⟨tgt, hl, htake⟩ | hno
  · rw [hostWrite_of_takesWrite (s := s.setInputs es) hl htake, hostWrite_of_takesWrite hl htake,
      writeWindow_setInputs]
    rfl
  · rw [hostWrite_of_refused (s := s.setInputs es) hno, hostWrite_of_refused hno]
    rfl

/-- W1C: what is cleared is cleared already (40_control.md R129). -/
theorem writeStatus_writeStatus (v : Word) (s : State) :
    ((s.writeStatus v).respond .okay 0).writeStatus v = (s.writeStatus v).respond .okay 0 := by
  unfold State.writeStatus
  cases v.getLsbD 1 <;> cases v.getLsbD 2 <;> rfl

theorem writeReg_writeReg_same (v : Word) (s : State) (r : Reg) :
    writeReg v ((writeReg v s r).respond .okay 0) r = (writeReg v s r).respond .okay 0 := by
  cases r with
  | status => exact writeStatus_writeStatus v s
  | _ => rfl

theorem writeWindow_writeWindow_same (hwf : s.mem.wf) (tgt : Target) (v : Word) :
    writeWindow v ((writeWindow v s tgt).respond .okay 0) tgt =
      (writeWindow v s tgt).respond .okay 0 := by
  cases tgt with
  | reg r => exact writeReg_writeReg_same v s r
  | out w => rfl
  | pal k =>
    simp only [writeWindow, State.respond_mem, State.setPalValid_mem, State.setMem_mem,
      Memory.writeColour_writeColour_same hwf]
    rfl
  | pix i =>
    simp only [writeWindow, State.respond_mem, State.setMem_mem,
      Memory.writeColour_writeColour_same hwf]
    rfl
  | idx w =>
    simp only [writeWindow, State.respond_mem, State.respond_params, State.setMem_mem,
      State.setMem_params, Memory.writeBytes_writeBytes_same hwf]
    rfl

/-- A taken write is taken again and stores what stands there, and a refused one is refused again. -/
theorem hostWrite_hostWrite_same (hwf : s.mem.wf) (a : BitVec 26) (v : Word) :
    hostWrite a v (hostWrite a v s) = hostWrite a v s := by
  rcases takesWrite_or_refused s a with ⟨tgt, hl, htake⟩ | hno
  · have hkeep := keepsBusyPeriod_hostWrite a v s
    rw [hostWrite_of_takesWrite (s := hostWrite a v s) (by rwa [hkeep.params])
      (by rwa [hkeep.busy]), hostWrite_of_takesWrite hl htake,
      writeWindow_writeWindow_same hwf]
    rfl
  · rw [hostWrite_of_refused hno, hostWrite_of_refused (s := s.busError) hno]
    rfl

/-! ## The statements -/

/-- Settles O5: each clause is one of the rules for a step and its event. -/
theorem stepServesTheFirstEvent : Obligations.StepServesTheFirstEvent := fun _ _ =>
  ⟨fun _ hin => step_read hin, fun _ _ ha hin => step_write hin ha,
    fun hin => step_of_cons hin, fun hin => step_of_cons hin, fun hin => step_of_nil hin⟩

/-- Settles O47: a misaligned offset selects nothing. -/
theorem misalignedAccessAnswersSlverr : Obligations.MisalignedAccessAnswersSlverr := by
  intro s a v rest ha
  have hl : locate s.params a = none := locate_of_misaligned ha
  exact ⟨fun hin => step_read_of_refused hin (by simp [hl]),
    fun hin => step_write_of_refused hin (by simp [hl])⟩

/-- Settles O48: an invalid offset selects nothing, and a window refuses every access while BUSY and
OUTMEM every write. -/
theorem otherBusErrorsAnswerSlverr : Obligations.OtherBusErrorsAnswerSlverr := by
  intro s a v rest
  refine ⟨fun h hin => step_read_of_refused hin fun tgt hl => ?_,
    fun h hin => step_write_of_refused hin fun tgt hl => ?_⟩
  · rcases h with hinv | ⟨hbusy, hoff⟩
    · simp [locate_of_invalidOffset hinv] at hl
    · rw [hbusy]
      exact (refuses_of_window_busy hl hoff).1
  · rcases h with hinv | ⟨hbusy, hoff⟩ | hout
    · simp [locate_of_invalidOffset hinv] at hl
    · rw [hbusy]
      exact (refuses_of_window_busy hl hoff).2
    · obtain ⟨w, rfl⟩ := eq_out_of_outBase_le hl hout
      rfl

/-- Settles O49: the pixel's offset selects it, and a stored colour reads back. -/
theorem pixelWindow : Obligations.PixelWindow := by
  intro s i v rest hidle hi hi'
  have hl := locate_pix hi hi'
  exact ⟨fun hin => ⟨_, step_write_window hin hl nofun hidle rfl, rfl,
      Memory.readColour_writeColour_same s.mem (pixAddr i) (wordColour v),
      memSameBut_writeColour (n := pixAddr i) rfl⟩,
    fun hin => step_read_window hin hl nofun hidle⟩

/-- Settles O51: the entry's offset selects it, and a stored colour reads back. -/
theorem paletteWindow : Obligations.PaletteWindow := by
  intro s k v rest hidle hk
  have hl := locate_pal s.params hk
  exact ⟨fun hin => ⟨_, step_write_window hin hl nofun hidle rfl, rfl,
      Memory.readColour_writeColour_same s.mem (palAddr k) (wordColour v),
      memSameBut_writeColour (n := palAddr k) rfl⟩,
    fun hin => step_read_window hin hl nofun hidle⟩

/-- Settles O50: a written word changes the bytes that have a cell, and a read groups IDX'. -/
theorem indexWindow : Obligations.IndexWindow := by
  intro s w v rest hidle hcell hw
  have hl := locate_idx hcell hw
  exact ⟨fun hin => ⟨_, step_write_window hin hl nofun hidle rfl, rfl,
      fun b hb hb' => (read_writeBytes_idxBytes s.mem w _ v).1 b hb hb' rfl,
      fun n hn => (read_writeBytes_idxBytes s.mem w n v).2 hn⟩,
    fun hin => ⟨_, step_read_window hin hl nofun hidle,
      fun b hb => groupWord_extractLsb' (fun b => idxByte s (4 * w + b)) hb⟩⟩

/-- Settles O52: a read groups OUT', and OUTMEM refuses writes. -/
theorem outputWindow : Obligations.OutputWindow := by
  intro s w v rest hidle hcell hw
  have hoff : 0x3000000 ≤ (BitVec.ofNat 26 (0x3000000 + 4 * w)).toNat := by
    rw [BitVec.toNat_ofNat]
    omega
  exact ⟨fun hin => ⟨_, step_read_window hin (locate_out hcell hw) nofun hidle,
      fun b hb => groupWord_extractLsb' (fun b => outByte s (4 * w + b)) hb⟩,
    (otherBusErrorsAnswerSlverr s _ v rest).2 (.inr (.inr hoff))⟩

/-- Settles O57: every answer to a read, with or without a draw, has the form stated. -/
theorem readsHaveNoSideEffect : Obligations.ReadsHaveNoSideEffect := by
  intro s a rest hin
  rw [step_read hin]
  obtain ⟨r, d, h | h⟩ := hostRead_cases a (s.setInputs rest) <;> rw [h]
  · exact ⟨⟨r, d⟩, s.free, rfl⟩
  · exact ⟨⟨r, d⟩, s.free + 1, rfl⟩

/-- Settles O58: a write is idempotent on a canonical memory and blind to the events to come. -/
theorem repeatedWriteChangesNothing : Obligations.RepeatedWriteChangesNothing := by
  intro s t u a v rest hwf ha hin ht hu
  rw [step_write hin ha] at ht
  obtain rfl := Host.Outcome.next.inj ht
  have hin' : (hostWrite a v (s.setInputs (.write a v :: rest))).inputs = .write a v :: rest := by
    rw [hostWrite_setInputs, State.setInputs_inputs]
  have hwf' : (s.setInputs (.write a v :: rest)).mem.wf := hwf
  rw [step_write hin' ha, hostWrite_setInputs, hostWrite_hostWrite_same hwf'] at hu
  exact (Host.Outcome.next.inj hu).symm

end Sys2Proof.Machine
end

section
/-! The command words and the decoder (30_encoding.md R90 to R92): which words decode, to which
command, and that the well-formedness check is the decoder's. -/

namespace Sys2Proof

/-! ## The fields of a command word (30_encoding.md R90) -/

theorem CmdWord.op_toNat (v : Word) : (CmdWord.op v).toNat = v.toNat % 16 := by
  rw [CmdWord.op, BitVec.extractLsb'_toNat, Nat.shiftRight_zero]

theorem CmdWord.rsvd_eq_zero_iff (v : Word) : CmdWord.rsvd v = 0 ↔ v.toNat / 16 = 0 := by
  have hdiv : v.toNat / 16 < 2 ^ 28 := by omega
  rw [← BitVec.toNat_inj, CmdWord.rsvd, BitVec.extractLsb'_toNat, Nat.shiftRight_eq_div_pow,
    Nat.mod_eq_of_lt hdiv]
  rfl

theorem CmdWord.wf_iff (v : Word) : CmdWord.wf v = true ↔ v.toNat / 16 = 0 ∧ v.toNat % 16 < 8 := by
  rw [CmdWord.wf, Bool.and_eq_true, CmdWord.reservedClear, CmdWord.opcodeDefined, beq_iff_eq,
    decide_eq_true_iff]

/-! ## The decoder (30_encoding.md R91, R92) -/

/-- Every command meets its row of the opcode map. -/
theorem opcodeRow : ∀ i : Instr, Laws.OpcodeRow.Statement i
  | .nop => Laws.OpcodeRow.nop
  | .softReset => Laws.OpcodeRow.softReset
  | .train => Laws.OpcodeRow.train
  | .map => Laws.OpcodeRow.map
  | .transFind => Laws.OpcodeRow.transFind
  | .compress => Laws.OpcodeRow.compress
  | .quantize => Laws.OpcodeRow.quantize
  | .frame => Laws.OpcodeRow.frame

theorem exists_decodeOp_ok_iff (n : Nat) : (∃ i, decodeOp n = .ok i) ↔ n < 8 := by
  constructor
  · rintro ⟨i, hi⟩
    obtain ⟨-, -, -, hop, -⟩ := opcodeRow i
    rwa [← Machine.op_toNat_of_decodeOp hi]
  · intro hn
    interval_cases n <;> exact ⟨_, rfl⟩

/-- A word decodes exactly when both checks on it hold. -/
theorem exists_decode_ok_iff (v : Word) :
    (∃ i, decode v = .ok i) ↔ v.toNat / 16 = 0 ∧ v.toNat % 16 < 8 := by
  rw [← CmdWord.rsvd_eq_zero_iff, ← CmdWord.op_toNat, ← exists_decodeOp_ok_iff]
  unfold decode
  split
  · next hrsvd => exact (and_iff_right hrsvd).symm
  · next hrsvd => exact iff_of_false nofun fun h => hrsvd h.1

theorem exists_error_iff {ε α : Type} (x : Except ε α) :
    (∃ e, x = .error e) ↔ ¬ ∃ a, x = .ok a := by
  cases x <;> simp

theorem decode_encode (i : Instr) : decode (encode i) = .ok i := by
  obtain ⟨-, -, -, -, hdecode, -⟩ := opcodeRow i
  exact hdecode

theorem wf_encode (i : Instr) : CmdWord.wf (encode i) = true := by
  obtain ⟨-, hwf, -⟩ := opcodeRow i
  exact hwf

/-- A word decodes to a command exactly when it is that command's word. -/
theorem decode_eq_ok_iff (v : Word) (i : Instr) : decode v = .ok i ↔ v = encode i :=
  ⟨Machine.eq_encode_of_decode, fun h => h ▸ decode_encode i⟩

/-- The bits of a word as the opcode table numbers them are the word. -/
theorem decodeTableWord_toNat {v : Word} {i : Instr} (h : decode v = .ok i) :
    decodeTableWord 32 v.toNat = some i := by
  rw [decodeTableWord, Nat.mod_eq_of_lt v.isLt, if_pos v.isLt, BitVec.ofNat_toNat,
    BitVec.setWidth_eq, h]

/-! ## The statements -/

/-- Settles O1, from the command's row of the opcode map. -/
theorem decodeOfEncode : Obligations.DecodeOfEncode := fun i _ =>
  ⟨wf_encode i, decode_encode i, decodeTableWord_toNat (decode_encode i)⟩

/-- Settles O2: a decoded word is its command's word, and both the decoder and the well-formedness
check refuse by RSVD and OP alone. -/
theorem decodeAcceptsOnlyCommandWords : Obligations.DecodeAcceptsOnlyCommandWords := by
  intro v
  refine ⟨decode_eq_ok_iff v, ?_, ?_⟩
  · rw [exists_error_iff, exists_decode_ok_iff]
    omega
  · rw [CmdWord.wf_iff, exists_decode_ok_iff]

/-- Settles O3: every word is a command's word, or its OP or RSVD is computed. -/
theorem decodedWords : Obligations.DecodedWords :=
  ⟨decode_encode .nop, decode_encode .softReset, decode_encode .train, decode_encode .map,
    decode_encode .transFind, decode_encode .compress, decode_encode .quantize,
    decode_encode .frame, by decide, by decide, by decide, by decide⟩

end Sys2Proof
end

section
/-! The packing of the stream: a code and its bits (30_encoding.md R96), the bytes of a bit string,
and their sub-blocks (R97). -/

namespace Sys2Proof.Machine

/-! ## Bits and bytes (30_encoding.md R96) -/

@[simp] theorem codeBits_length (code n : Nat) : (codeBits code n).length = n := by
  simp [codeBits]

theorem codeBits_succ (code n : Nat) :
    codeBits code (n + 1) = code.testBit 0 :: codeBits (code / 2) n := by
  simp [codeBits, List.range_succ_eq_map, Nat.testBit_succ]

theorem bitsValue_codeBits {code n : Nat} (h : code < 2 ^ n) :
    bitsValue (codeBits code n) = code := by
  induction n generalizing code with
  | zero =>
    rw [pow_zero, Nat.lt_one_iff] at h
    rw [h]
    rfl
  | succ n ih =>
    rw [pow_succ] at h
    rw [codeBits_succ, bitsValue, ih (by omega), Nat.testBit_zero]
    rcases Nat.mod_two_eq_zero_or_one code with hbit | hbit <;> simp [hbit] <;> omega

theorem codeBits_bitsValue (bits : List Bool) : codeBits (bitsValue bits) bits.length = bits := by
  induction bits with
  | nil => rfl
  | cons b bits ih =>
    rw [List.length_cons, codeBits_succ, bitsValue, Nat.testBit_zero]
    have hhalf : (b.toNat + 2 * bitsValue bits) / 2 = bitsValue bits := by
      have := b.toNat_lt
      omega
    rw [hhalf, ih]
    cases b <;> simp

theorem bitsValue_lt (bits : List Bool) : bitsValue bits < 2 ^ bits.length := by
  induction bits with
  | nil => exact Nat.one_pos
  | cons b bits ih =>
    rw [List.length_cons, pow_succ, bitsValue]
    have := b.toNat_lt
    omega

theorem bitsValue_append (as bs : List Bool) :
    bitsValue (as ++ bs) = bitsValue as + bitsValue bs * 2 ^ as.length := by
  induction as with
  | nil => simp [bitsValue]
  | cons a as ih =>
    rw [List.cons_append, bitsValue, bitsValue, ih, List.length_cons, pow_succ]
    ring

/-- The byte of eight bits has those bits. -/
theorem byteBits_ofNat_bitsValue {bits : List Bool} (h : bits.length = 8) :
    byteBits (BitVec.ofNat 8 (bitsValue bits)) = bits := by
  have hlt := bitsValue_lt bits
  have hbits := codeBits_bitsValue bits
  rw [h] at hlt hbits
  rw [byteBits, BitVec.toNat_ofNat, Nat.mod_eq_of_lt hlt, hbits]

theorem ofNat_bitsValue_byteBits (b : Byte) : BitVec.ofNat 8 (bitsValue (byteBits b)) = b := by
  rw [byteBits, bitsValue_codeBits b.isLt, BitVec.ofNat_toNat, BitVec.setWidth_eq]

/-- The byte of the bits that fill no whole byte, where there are any. -/
def lastByte (bits : List Bool) : List Byte :=
  if 0 < bits.length then [BitVec.ofNat 8 (bitsValue bits)] else []

theorem packBits_of_short {bits : List Bool} (h : bits.length < 8) :
    packBits bits = lastByte bits := by
  unfold packBits lastByte
  split
  · next hpos =>
    have hone : (bits.length + 7) / 8 = 1 := by omega
    simp [hone, List.take_of_length_le h.le]
  · next hzero =>
    have hnone : (bits.length + 7) / 8 = 0 := by omega
    rw [hnone]
    rfl

theorem packBits_byteBits_append (b : Byte) (bits : List Bool) :
    packBits (byteBits b ++ bits) = b :: packBits bits := by
  have hlen : (byteBits b).length = 8 := codeBits_length _ _
  have hsize : ((byteBits b ++ bits).length + 7) / 8 = (bits.length + 7) / 8 + 1 := by
    rw [List.length_append, hlen]
    omega
  rw [packBits, hsize, List.range_succ_eq_map, List.map_cons, List.map_map, Nat.mul_zero,
    List.drop_zero, List.take_left' hlen, ofNat_bitsValue_byteBits, packBits]
  refine congrArg (b :: ·) (List.map_congr_left fun q _ => ?_)
  have hdrop : (byteBits b ++ bits).drop (8 * (q + 1)) = bits.drop (8 * q) := by
    rw [Nat.mul_succ, Nat.add_comm, ← List.drop_drop, List.drop_left' hlen]
  simp only [Function.comp_apply, Nat.succ_eq_add_one, hdrop]

/-- Whole bytes pack to themselves, and the bits after them to one padded byte. -/
theorem packBits_bytes_append (data : List Byte) {bits : List Bool} (h : bits.length < 8) :
    packBits (data.flatMap byteBits ++ bits) = data ++ lastByte bits := by
  induction data with
  | nil => exact packBits_of_short h
  | cons b data ih =>
    rw [List.flatMap_cons, List.append_assoc, packBits_byteBits_append, ih, List.cons_append]

/-! ## Sub-blocks (30_encoding.md R97) -/

/-- Full sub-blocks, each behind its length. -/
def fullBlocks (blocks : List (List Byte)) : List Byte := blocks.flatMap fun blk => 254 :: blk

/-- The last sub-block behind its length, where it is not empty. -/
def lastBlock (blk : List Byte) : List Byte :=
  if 0 < blk.length then BitVec.ofNat 8 blk.length :: blk else []

theorem subBlocks_of_short {blk : List Byte} (h : blk.length < 254) {fuel : Nat}
    (hfuel : blk.length ≤ fuel) : subBlocks fuel blk = lastBlock blk := by
  unfold lastBlock
  split
  · next hpos =>
    obtain ⟨fuel, rfl⟩ := Nat.exists_eq_succ_of_ne_zero (hpos.trans_le hfuel).ne'
    have hend : subBlocks fuel [] = [] := by cases fuel <;> rfl
    rw [subBlocks, if_neg (List.ne_nil_of_length_pos hpos), List.take_of_length_le h.le,
      List.drop_of_length_le h.le, hend, List.append_nil]
  · next hzero =>
    obtain rfl := List.length_eq_zero_iff.1 (Nat.eq_zero_of_not_pos hzero)
    cases fuel <;> rfl

theorem subBlocks_blocks_append {blk : List Byte} (h : blk.length < 254)
    {blocks : List (List Byte)} (hfull : ∀ full ∈ blocks, full.length = 254) {fuel : Nat}
    (hfuel : (blocks.flatten ++ blk).length ≤ fuel) :
    subBlocks fuel (blocks.flatten ++ blk) = fullBlocks blocks ++ lastBlock blk := by
  induction blocks generalizing fuel with
  | nil => exact subBlocks_of_short h hfuel
  | cons full blocks ih =>
    obtain ⟨hlen, hrest⟩ := List.forall_mem_cons.1 hfull
    rw [List.flatten_cons, List.append_assoc] at hfuel ⊢
    rw [List.length_append, hlen] at hfuel
    obtain ⟨fuel, rfl⟩ := Nat.exists_eq_succ_of_ne_zero (by omega : fuel ≠ 0)
    have hne : full ++ (blocks.flatten ++ blk) ≠ [] := by
      intro hnil
      rw [(List.append_eq_nil_iff.1 hnil).1] at hlen
      cases hlen
    rw [subBlocks, if_neg hne, List.take_left' hlen, List.drop_left' hlen,
      ih hrest (by omega), hlen]
    simp [fullBlocks]

/-- The stream of a bit string: m, its bytes in sub-blocks, the terminator (30_encoding.md R94). -/
def framed (m : Nat) (bits : List Bool) : List Byte :=
  BitVec.ofNat 8 m :: (subBlocks (packBits bits).length (packBits bits) ++ [0])

theorem streamOf_eq_framed (m : Nat) (idx : List Nat) :
    streamOf m idx = framed m (bitString (widthCodes m idx)) := rfl

end Sys2Proof.Machine
end

section
/-! The codes of the stream with their widths (30_encoding.md R95, R98): the dictionary and the
width that go with the number of a code, and that every code fits its width. -/

namespace Sys2Proof.Machine

variable {m w j free ent x : Nat} {dict : List ((Nat × Nat) × Nat)} {xs : List Nat}

/-! ## Widths (30_encoding.md R98) -/

/-- A code with its width that fits it, the width in m + 1 to 12 (43_lzw.md R205). -/
def FitsWidth (m : Nat) (c : Nat × Nat) : Prop := c.1 < 2 ^ c.2 ∧ m + 1 ≤ c.2 ∧ c.2 ≤ 12

/-- A root code or a dictionary code below `free` (30_encoding.md R95). -/
def IsDataCode (m free code : Nat) : Prop := code < free ∧ code ≠ clearCode m ∧ code ≠ eoiCode m

/-- What holds before the code number j after a CLEAR of its width w, the next free code, the
dictionary and the string matched so far (`ent`). `room` is the width rule's promise that w holds
every code below `free`. -/
structure CodingInv (m w j free ent : Nat) (dict : List ((Nat × Nat) × Nat)) : Prop where
  width : m + 1 ≤ w ∧ w ≤ 12
  number : 1 ≤ j ∧ free = 2 ^ m + 1 + j
  room : free ≤ 2 ^ w
  dictCodes : ∀ e ∈ dict, IsDataCode m free e.2
  entCode : IsDataCode m free ent

theorem IsDataCode.mono {code free' : Nat} (h : IsDataCode m free code) (hle : free ≤ free') :
    IsDataCode m free' code := ⟨h.1.trans_le hle, h.2⟩

theorem isDataCode_of_lt (h : x < 2 ^ m) (hfree : 2 ^ m ≤ free) : IsDataCode m free x := by
  refine ⟨h.trans_le hfree, ?_, Coder.ne_eoiCode_of_lt h⟩
  unfold clearCode
  omega

theorem nextWidth_range (h : m + 1 ≤ w ∧ w ≤ 12) (j : Nat) :
    m + 1 ≤ nextWidth m w j ∧ nextWidth m w j ≤ 12 := by
  unfold nextWidth
  split <;> omega

/-- The width grows before the codes outgrow it; at width 12 the dictionary is full first. -/
theorem le_two_pow_nextWidth (hroom : 2 ^ m + 1 + j ≤ 2 ^ w) (hmax : 2 ^ m + 1 + j < maxMaxCode) :
    2 ^ m + 1 + (j + 1) ≤ 2 ^ nextWidth m w j := by
  unfold nextWidth
  split
  · rw [pow_succ]
    omega
  · next hkeep =>
    by_cases hw : w < 12
    · have hpos := Nat.two_pow_pos m
      omega
    · have hpow : 2 ^ 12 ≤ 2 ^ w := Nat.pow_le_pow_right (by decide) (Nat.le_of_not_lt hw)
      unfold maxMaxCode at hmax
      omega

/-- The first code after a CLEAR leaves the width alone. -/
theorem nextWidth_one (hm : 2 ≤ m) : nextWidth m (m + 1) 1 = m + 1 := by
  have hfour : 2 ^ 2 ≤ 2 ^ m := Nat.pow_le_pow_right (by decide) hm
  unfold nextWidth
  rw [pow_succ, if_neg (by omega)]

/-- CLEAR and EOI fit every width. -/
theorem fitsWidth_of_le_eoiCode (hm : 2 ≤ m) (hw : m + 1 ≤ w ∧ w ≤ 12) {code : Nat}
    (h : code ≤ eoiCode m) : FitsWidth m (code, w) := by
  refine ⟨?_, hw⟩
  have hpow : 2 ^ (m + 1) ≤ 2 ^ w := Nat.pow_le_pow_right (by decide) hw.1
  have hfour : 2 ^ 2 ≤ 2 ^ m := Nat.pow_le_pow_right (by decide) hm
  unfold eoiCode at h
  rw [pow_succ] at hpow
  dsimp only
  omega

namespace CodingInv

theorem fits_ent (h : CodingInv m w j free ent dict) : FitsWidth m (ent, w) :=
  ⟨h.entCode.1.trans_le h.room, h.width⟩

theorem free_le (h : CodingInv m w j free ent dict) : free ≤ maxMaxCode :=
  h.room.trans (Nat.pow_le_pow_right (by decide) h.width.2)

/-- After a CLEAR (43_lzw.md R209, R211). -/
theorem afterClear (hm : 2 ≤ m) (hm' : m ≤ 8) (hx : x < 2 ^ m) :
    CodingInv m (m + 1) 1 (firstCode m) x [] := by
  have hfour : 2 ^ 2 ≤ 2 ^ m := Nat.pow_le_pow_right (by decide) hm
  refine ⟨⟨le_rfl, by omega⟩, ⟨le_rfl, rfl⟩, ?_, nofun, isDataCode_of_lt hx (Nat.le_add_right _ _)⟩
  unfold firstCode
  rw [pow_succ]
  omega

/-- `ent` becomes the code of a longer string of the dictionary (43_lzw.md R209). -/
theorem extend (h : CodingInv m w j free ent dict) {pair : Nat × Nat} {code : Nat}
    (hfound : Coder.lookup pair dict = some code) : CodingInv m w j free code dict :=
  { h with entCode := h.dictCodes _ (Coder.lookup_mem hfound) }

/-- `ent` is sent and the longer string enters the dictionary (43_lzw.md R210). -/
theorem insert (h : CodingInv m w j free ent dict) (hmax : free < maxMaxCode) (hx : x < 2 ^ m)
    (pair : Nat × Nat) :
    CodingInv m (nextWidth m w j) (j + 1) (free + 1) x ((pair, free) :: dict) := by
  obtain ⟨hwidth, ⟨hj, rfl⟩, hroom, hdict, -⟩ := h
  refine ⟨nextWidth_range hwidth j, ⟨by omega, rfl⟩, le_two_pow_nextWidth hroom hmax,
    List.forall_mem_cons.2 ⟨⟨Nat.lt_succ_self _, ?_⟩, fun e he => (hdict e he).mono (by omega)⟩,
    isDataCode_of_lt hx (by omega)⟩
  unfold clearCode eoiCode
  dsimp only
  omega

end CodingInv

/-! ## The codes still to come, with their widths -/

/-- The codes of `codesFrom` with their widths, the next one of number j and width w. -/
def widthCodesFrom (m w j free ent : Nat) (dict : List ((Nat × Nat) × Nat)) (xs : List Nat) :
    List (Nat × Nat) :=
  withWidths m w j (codesFrom m dict free ent xs)

theorem withWidths_clear (cs : List Nat) :
    withWidths m w j (clearCode m :: cs) = (clearCode m, w) :: withWidths m (m + 1) 1 cs := by
  rw [withWidths, if_pos rfl]

theorem withWidths_of_ne_clear {code : Nat} (h : code ≠ clearCode m) (cs : List Nat) :
    withWidths m w j (code :: cs) = (code, w) :: withWidths m (nextWidth m w j) (j + 1) cs := by
  rw [withWidths, if_neg h]

theorem widthCodes_cons (m x : Nat) (xs : List Nat) : widthCodes m (x :: xs) =
    (clearCode m, m + 1) :: widthCodesFrom m (m + 1) 1 (firstCode m) x [] xs :=
  withWidths_clear _

theorem widthCodesFrom_nil (h : ent ≠ clearCode m) :
    widthCodesFrom m w j free ent dict [] = [(ent, w), (eoiCode m, nextWidth m w j)] := by
  rw [widthCodesFrom, codesFrom, withWidths_of_ne_clear h,
    withWidths_of_ne_clear (Coder.clearCode_ne_eoiCode m).symm, withWidths]

theorem widthCodesFrom_of_found {code : Nat} (h : Coder.lookup (ent, x) dict = some code) :
    widthCodesFrom m w j free ent dict (x :: xs) = widthCodesFrom m w j free code dict xs := by
  simp only [widthCodesFrom, codesFrom, h]

theorem widthCodesFrom_of_room (h : ent ≠ clearCode m) (hnew : Coder.lookup (ent, x) dict = none)
    (hmax : free < maxMaxCode) : widthCodesFrom m w j free ent dict (x :: xs) =
      (ent, w) :: widthCodesFrom m (nextWidth m w j) (j + 1) (free + 1) x
        (((ent, x), free) :: dict) xs := by
  simp only [widthCodesFrom, codesFrom, hnew, if_pos hmax, withWidths_of_ne_clear h]

theorem widthCodesFrom_of_full (h : ent ≠ clearCode m) (hnew : Coder.lookup (ent, x) dict = none)
    (hmax : ¬ free < maxMaxCode) : widthCodesFrom m w j free ent dict (x :: xs) =
      (ent, w) :: (clearCode m, nextWidth m w j) ::
        widthCodesFrom m (m + 1) 1 (firstCode m) x [] xs := by
  simp only [widthCodesFrom, codesFrom, hnew, if_neg hmax, withWidths_of_ne_clear h,
    withWidths_clear]

/-- Every code still to come fits its width. -/
theorem CodingInv.fits (hm : 2 ≤ m) (hm' : m ≤ 8) (h : CodingInv m w j free ent dict)
    (hxs : ∀ x ∈ xs, x < 2 ^ m) : ∀ c ∈ widthCodesFrom m w j free ent dict xs, FitsWidth m c := by
  have hnext := nextWidth_range h.width j
  have hclear : ent ≠ clearCode m := h.entCode.2.1
  induction xs generalizing w j free ent dict with
  | nil =>
    rw [widthCodesFrom_nil hclear]
    exact List.forall_mem_cons.2 ⟨h.fits_ent,
      List.forall_mem_singleton.2 (fitsWidth_of_le_eoiCode hm hnext le_rfl)⟩
  | cons x xs ih =>
    obtain ⟨hx, hrest⟩ := List.forall_mem_cons.1 hxs
    have step {w j free ent dict} (h : CodingInv m w j free ent dict) :=
      ih h hrest (nextWidth_range h.width j) h.entCode.2.1
    cases hlookup : Coder.lookup (ent, x) dict with
    | some code =>
      rw [widthCodesFrom_of_found hlookup]
      exact step (h.extend hlookup)
    | none =>
      by_cases hmax : free < maxMaxCode
      · rw [widthCodesFrom_of_room hclear hlookup hmax]
        exact List.forall_mem_cons.2 ⟨h.fits_ent, step (h.insert hmax hx _)⟩
      · rw [widthCodesFrom_of_full hclear hlookup hmax]
        exact List.forall_mem_cons.2 ⟨h.fits_ent, List.forall_mem_cons.2
          ⟨fitsWidth_of_le_eoiCode hm hnext (Nat.le_succ _), step (afterClear hm hm' hx)⟩⟩

/-- Settles O41: the first CLEAR fits, and then `CodingInv` holds before every code. -/
theorem codesFitTheirWidths : Obligations.CodesFitTheirWidths := by
  intro m idx hm hm' hne hidx
  obtain ⟨x, xs, rfl⟩ := List.exists_cons_of_ne_nil hne
  obtain ⟨hx, hxs⟩ := List.forall_mem_cons.1 hidx
  rw [widthCodes_cons]
  exact List.forall_mem_cons.2
    ⟨fitsWidth_of_le_eoiCode hm ⟨le_rfl, by omega⟩ (Nat.le_succ _),
      (CodingInv.afterClear hm hm' hx).fits hm hm' hxs⟩

end Sys2Proof.Machine
end

section
/-! The coder against the stream format: what the coder has sent is kept as a bit string, and each
pass sends the next codes of the format at their widths (30_encoding.md R94 to R98). -/

namespace Sys2Proof.Machine

namespace Coder

variable {c : Coder} {m j code x : Nat} {data : List Byte} {bits : List Bool} {xs : List Nat}

/-! ## The bytes and bits sent -/

/-- The bytes `data` are put out: whole blocks stand in the stream s after the byte m, the others in
the open block. -/
structure HoldsBytes (m : Nat) (s blk data : List Byte) : Prop where
  stream : ∃ blocks : List (List Byte), s = BitVec.ofNat 8 m :: fullBlocks blocks ∧
    (∀ full ∈ blocks, full.length = 254) ∧ data = blocks.flatten ++ blk
  openBlock : blk.length < 254

/-- The coder has sent the bits `bits`: whole bytes are put out, the last bits wait in `acc`. -/
def HoldsBits (m : Nat) (c : Coder) (bits : List Bool) : Prop :=
  ∃ data pending, HoldsBytes m c.s c.blk data ∧ bits = data.flatMap byteBits ++ pending ∧
    c.acc = bitsValue pending ∧ c.nacc = pending.length

theorem holdsBits_start (m : Nat) : HoldsBits m (start m) [] :=
  ⟨[], [], ⟨⟨[], rfl, nofun, rfl⟩, Nat.zero_lt_succ _⟩, rfl, rfl, rfl⟩

theorem HoldsBytes.putByte (h : HoldsBytes m c.s c.blk data) (b : Byte) :
    HoldsBytes m (c.putByte b).s (c.putByte b).blk (data ++ [b]) := by
  obtain ⟨⟨blocks, hs, hfull, rfl⟩, hblk⟩ := h
  unfold Coder.putByte
  split
  · next hend =>
    refine ⟨⟨blocks ++ [c.blk ++ [b]], ?_, ?_, ?_⟩, Nat.zero_lt_succ _⟩
    · simp [hs, fullBlocks]
    · refine List.forall_mem_append.2 ⟨hfull, List.forall_mem_singleton.2 ?_⟩
      rw [List.length_append, List.length_singleton, hend]
    · simp
  · next hroom =>
    refine ⟨⟨blocks, hs, hfull, List.append_assoc ..⟩, ?_⟩
    rw [List.length_append, List.length_singleton]
    omega

/-- The loop of `emit` moves eight bits at a time from `acc` to a byte (43_lzw.md R205). -/
theorem HoldsBits.drain (fuel : Nat) : ∀ {c : Coder}, HoldsBits m c bits →
    HoldsBits m (Coder.drain fuel c) bits := by
  induction fuel with
  | zero => exact id
  | succ fuel ih =>
    intro c h
    unfold Coder.drain
    split
    · next hbyte =>
      obtain ⟨data, pending, hdata, hbits, hacc, hnacc⟩ := h
      have hlen : (pending.take 8).length = 8 := List.length_take_of_le (hnacc ▸ hbyte)
      have hlt := bitsValue_lt (pending.take 8)
      have hsplit := bitsValue_append (pending.take 8) (pending.drop 8)
      rw [List.take_append_drop, ← hacc, hlen] at hsplit
      rw [hlen] at hlt
      have hmod : c.acc % 256 = bitsValue (pending.take 8) := by omega
      have hdiv : c.acc / 256 = bitsValue (pending.drop 8) := by omega
      rw [hmod, hdiv]
      refine ih ⟨_, pending.drop 8, hdata.putByte _, ?_, rfl, ?_⟩
      · rw [hbits, List.flatMap_append, List.flatMap_singleton, byteBits_ofNat_bitsValue hlen,
          List.append_assoc, List.take_append_drop]
      · rw [List.length_drop, hnacc]
    · exact h

/-- A code adds its bits behind those that wait (43_lzw.md R205). -/
theorem HoldsBits.send (h : HoldsBits m c bits) (hfit : code < 2 ^ c.n) :
    HoldsBits m (c.send code) (bits ++ codeBits code c.n) := by
  obtain ⟨data, pending, hdata, rfl, hacc, hnacc⟩ := h
  refine HoldsBits.drain _ ⟨data, pending ++ codeBits code c.n, hdata,
    List.append_assoc .., ?_, ?_⟩
  · rw [bitsValue_append, bitsValue_codeBits hfit, ← hacc, ← hnacc]
  · rw [List.length_append, codeBits_length, ← hnacc]

theorem HoldsBits.updateWidth (h : HoldsBits m c bits) : HoldsBits m c.updateWidth bits := by
  obtain ⟨n, flag, hwidth⟩ := updateWidth_frame c
  rw [hwidth]
  exact h

theorem HoldsBits.emit (h : HoldsBits m c bits) (hcode : code ≠ eoiCode c.m)
    (hfit : code < 2 ^ c.n) : HoldsBits m (c.emit code) (bits ++ codeBits code c.n) := by
  rw [emit_of_ne_eoi hcode]
  exact (h.send hfit).updateWidth

/-! ## The end of the stream (43_lzw.md R212 to R214) -/

/-- Flushing puts the last bits, a byte of zeros above them, behind the bytes put out. -/
theorem HoldsBits.flushBits (h : HoldsBits m c bits) (hn : c.nacc < 8) :
    HoldsBytes m c.flushBits.s c.flushBits.blk (packBits bits) := by
  obtain ⟨data, pending, hdata, rfl, hacc, hnacc⟩ := h
  rw [packBits_bytes_append data (hnacc ▸ hn)]
  unfold Coder.flushBits lastByte
  rw [hacc, hnacc]
  dsimp only
  split
  · exact hdata.putByte _
  · rw [List.append_nil]
    exact hdata

theorem HoldsBytes.flushBlock_s (h : HoldsBytes m c.s c.blk data) :
    c.flushBlock.s = BitVec.ofNat 8 m :: subBlocks data.length data := by
  obtain ⟨⟨blocks, hs, hfull, rfl⟩, hblk⟩ := h
  rw [subBlocks_blocks_append hblk hfull le_rfl]
  unfold flushBlock lastBlock
  split
  · rw [hs, List.cons_append]
  · rw [hs, List.append_nil]

theorem HoldsBits.emit_eoi_s (h : HoldsBits m c bits) (hfit : eoiCode c.m < 2 ^ c.n) :
    (c.emit (eoiCode c.m)).s = framed m (bits ++ codeBits (eoiCode c.m) c.n) := by
  obtain ⟨n, flag, hwidth⟩ := updateWidth_frame (c.send (eoiCode c.m))
  have hshort : (c.send (eoiCode c.m)).updateWidth.nacc < 8 := by
    rw [hwidth]
    exact send_nacc_lt _ c
  rw [emit_eoi, finalFlush, ((h.send hfit).updateWidth.flushBits hshort).flushBlock_s]
  rfl

/-! ## The width after a code (43_lzw.md R207, R208) -/

theorem emit_width_of_clearflag (hcode : code ≠ eoiCode c.m) (hflag : c.clearflag = true) :
    (c.emit code).n = c.m + 1 ∧ (c.emit code).clearflag = false := by
  obtain ⟨s, blk, acc, nacc, hsend⟩ := send_frame code c
  rw [emit_of_ne_eoi hcode, hsend, Coder.updateWidth, if_pos hflag]
  exact ⟨rfl, rfl⟩

/-- The coder widens by its next free code, the format by the number of the code. -/
theorem emit_width (hcode : code ≠ eoiCode c.m) (hflag : c.clearflag = false)
    (hmax : c.free ≤ maxMaxCode) (hfree : c.free = 2 ^ m + 1 + j) :
    (c.emit code).n = nextWidth m c.n j ∧ (c.emit code).clearflag = false := by
  obtain ⟨s, blk, acc, nacc, hsend⟩ := send_frame code c
  have hgrow : maxCode c.n < c.free ↔ c.n < 12 ∧ 2 ^ c.n - 1 < 2 ^ m + 1 + j := by
    unfold maxCode
    split
    · next hlt => rw [hfree, and_iff_right hlt]
    · next hfull => exact iff_of_false hmax.not_gt fun h => hfull h.1
  rw [emit_of_ne_eoi hcode, hsend, Coder.updateWidth, hflag, if_neg Bool.false_ne_true]
  dsimp only
  unfold nextWidth
  split
  · next hwide => exact ⟨(if_pos (hgrow.1 hwide)).symm, rfl⟩
  · next hkeep => exact ⟨(if_neg (mt hgrow.2 hkeep)).symm, rfl⟩

/-! ## One pass of the loop (43_lzw.md R209 to R211) -/

theorem pass_of_found (h : lookup (c.ent, x) c.dict = some code) :
    c.pass x = { c with ent := code } := by
  simp only [pass, h]

theorem pass_of_room (h : lookup (c.ent, x) c.dict = none)
    (hmax : (c.emit c.ent).free < maxMaxCode) : c.pass x =
      { c.emit c.ent with
        dict := ((c.ent, x), (c.emit c.ent).free) :: (c.emit c.ent).dict
        free := (c.emit c.ent).free + 1
        ent := x } := by
  simp only [pass, h, if_pos hmax]

theorem pass_of_full (h : lookup (c.ent, x) c.dict = none)
    (hmax : ¬ (c.emit c.ent).free < maxMaxCode) :
    c.pass x = { (c.emit c.ent).dictionaryFull with ent := x } := by
  simp only [pass, h, if_neg hmax]

/-- The coder before the code number j after a CLEAR, with the bits of the codes before it sent. -/
structure Coding (m j : Nat) (bits : List Bool) (c : Coder) : Prop where
  size : c.m = m
  flag : c.clearflag = false
  inv : CodingInv m c.n j c.free c.ent c.dict
  sent : HoldsBits m c bits

/-- The codes, with their widths, that the format has still to come for the indices xs. -/
def remaining (m j : Nat) (c : Coder) (xs : List Nat) : List (Nat × Nat) :=
  widthCodesFrom m c.n j c.free c.ent c.dict xs

/-- The state c1 after the coder c has sent its data code, before the dictionary changes. -/
structure AfterDataCode (m j : Nat) (bits : List Bool) (c c1 : Coder) : Prop where
  size : c1.m = m
  width : c1.n = nextWidth m c.n j
  flag : c1.clearflag = false
  free : c1.free = c.free
  dict : c1.dict = c.dict
  sent : HoldsBits m c1 (bits ++ codeBits c.ent c.n)

theorem Coding.emit_ent (h : Coding m j bits c) : AfterDataCode m j bits c (c.emit c.ent) := by
  obtain ⟨rfl, hflag, hinv, hsent⟩ := h
  have hcode : c.ent ≠ eoiCode c.m := hinv.entCode.2.2
  obtain ⟨hn, hflag'⟩ := emit_width hcode hflag hinv.free_le hinv.number.2
  exact ⟨emit_m hcode, hn, hflag', emit_free hcode, emit_dict hcode,
    hsent.emit hcode hinv.fits_ent.1⟩

/-- A CLEAR with the dictionary empty, the first one or one for a full dictionary. -/
theorem coding_emit_clear (hm : 2 ≤ m) (hm' : m ≤ 8) (hsize : c.m = m) (hdict : c.dict = [])
    (hfree : c.free = firstCode m) (hrange : m + 1 ≤ c.n ∧ c.n ≤ 12) (hsent : HoldsBits m c bits)
    (hwidth : (c.emit (clearCode m)).n = m + 1 ∧ (c.emit (clearCode m)).clearflag = false)
    (hx : x < 2 ^ m) :
    Coding m 1 (bits ++ codeBits (clearCode m) c.n) { c.emit (clearCode m) with ent := x } ∧
    ∀ xs, remaining m 1 { c.emit (clearCode m) with ent := x } xs =
      widthCodesFrom m (m + 1) 1 (firstCode m) x [] xs := by
  subst hsize
  have hcode := clearCode_ne_eoiCode c.m
  obtain ⟨hn, hflag⟩ := hwidth
  have hfit := fitsWidth_of_le_eoiCode hm hrange (Nat.le_succ (clearCode c.m))
  refine ⟨⟨emit_m hcode, hflag, ?_, hsent.emit hcode hfit.1⟩, fun xs => ?_⟩
  · dsimp only
    rw [hn, emit_free hcode, hfree, emit_dict hcode, hdict]
    exact .afterClear hm hm' hx
  · rw [remaining, hn, emit_free hcode, hfree, emit_dict hcode, hdict]

/-- The coder before the first pass has sent the first CLEAR. -/
theorem coding_start (hm : 2 ≤ m) (hm' : m ≤ 8) (hx : x < 2 ^ m) :
    Coding m 1 (codeBits (clearCode m) (m + 1)) { (start m).emit (clearCode m) with ent := x } ∧
    ∀ xs, remaining m 1 { (start m).emit (clearCode m) with ent := x } xs =
      widthCodesFrom m (m + 1) 1 (firstCode m) x [] xs := by
  have hrange : m + 1 ≤ (start m).n ∧ (start m).n ≤ 12 := ⟨le_rfl, Nat.succ_le_succ (by omega)⟩
  have hmax : (start m).free ≤ maxMaxCode := (firstCode_le hm').trans (by decide)
  obtain ⟨hn, hflag⟩ := emit_width (clearCode_ne_eoiCode m) (c := start m) (j := 1) rfl hmax
    rfl
  exact coding_emit_clear hm hm' rfl rfl rfl hrange (holdsBits_start m)
    ⟨hn.trans (nextWidth_one hm), hflag⟩ hx

/-- One pass sends the next codes of the format, none, one or two, and leaves the rest to come. -/
theorem Coding.pass (hm : 2 ≤ m) (hm' : m ≤ 8) (h : Coding m j bits c) (hx : x < 2 ^ m) :
    ∃ j' codes, Coding m j' (bits ++ bitString codes) (c.pass x) ∧
      ∀ xs, remaining m j c (x :: xs) = codes ++ remaining m j' (c.pass x) xs := by
  have hclear : c.ent ≠ clearCode m := h.inv.entCode.2.1
  cases hlookup : lookup (c.ent, x) c.dict with
  | some code =>
    rw [pass_of_found hlookup]
    refine ⟨j, [], ⟨h.size, h.flag, h.inv.extend hlookup, ?_⟩,
      fun xs => widthCodesFrom_of_found hlookup⟩
    rw [bitString, List.flatMap_nil, List.append_nil]
    exact h.sent
  | none =>
    obtain ⟨hsize, hwidth, hflag, hfree, hdict, hsent⟩ := h.emit_ent
    by_cases hmax : c.free < maxMaxCode
    · rw [pass_of_room hlookup (hfree ▸ hmax), hfree, hdict]
      refine ⟨j + 1, [(c.ent, c.n)], ⟨hsize, hflag, ?_, ?_⟩, fun xs => ?_⟩
      · dsimp only
        rw [hwidth]
        exact h.inv.insert hmax hx _
      · rw [bitString, List.flatMap_singleton]
        exact hsent
      · simp only [remaining, hwidth, List.singleton_append]
        exact widthCodesFrom_of_room hclear hlookup hmax
    · rw [pass_of_full hlookup (hfree ▸ hmax), dictionaryFull_eq hsize]
      obtain ⟨hcoding, hrest⟩ := coding_emit_clear hm hm'
        (c := { c.emit c.ent with dict := [], free := firstCode m, clearflag := true })
        hsize rfl rfl (hwidth ▸ nextWidth_range h.inv.width j) hsent
        (hsize ▸ emit_width_of_clearflag (clearCode_ne_eoiCode _) rfl) hx
      refine ⟨1, [(c.ent, c.n), (clearCode m, nextWidth m c.n j)], ?_, fun xs => ?_⟩
      · rw [bitString, List.flatMap_cons, List.flatMap_singleton, ← List.append_assoc, ← hwidth]
        exact hcoding
      · rw [hrest]
        exact widthCodesFrom_of_full hclear hlookup hmax

/-- The end of the input sends the last data code and EOI (43_lzw.md R212). -/
theorem Coding.endOfInput_s (hm : 2 ≤ m) (h : Coding m j bits c) :
    c.endOfInput.s = framed m (bits ++ bitString (remaining m j c [])) := by
  obtain ⟨hsize, hwidth, -, -, -, hsent⟩ := h.emit_ent
  have hfit := fitsWidth_of_le_eoiCode hm (nextWidth_range h.inv.width j) le_rfl
  rw [← hwidth, ← hsize] at hfit
  have hend := hsent.emit_eoi_s hfit.1
  rw [hsize, hwidth] at hend
  rw [endOfInput, h.size, hend, remaining, widthCodesFrom_nil h.inv.entCode.2.1, bitString,
    List.flatMap_cons, List.flatMap_singleton, List.append_assoc]

/-- The passes over the indices to come and the end of the input send the codes to come. -/
theorem Coding.foldl_endOfInput_s (hm : 2 ≤ m) (hm' : m ≤ 8) (h : Coding m j bits c)
    (hxs : ∀ x ∈ xs, x < 2 ^ m) :
    (xs.foldl Coder.pass c).endOfInput.s = framed m (bits ++ bitString (remaining m j c xs)) := by
  induction xs generalizing c j bits with
  | nil => exact h.endOfInput_s hm
  | cons x xs ih =>
    obtain ⟨hx, hrest⟩ := List.forall_mem_cons.1 hxs
    obtain ⟨j', codes, hpass, hremaining⟩ := h.pass hm hm' hx
    rw [List.foldl_cons, ih hpass hrest, hremaining, bitString, bitString, bitString,
      List.flatMap_append, List.append_assoc]

end Coder

/-- Settles O39: from the first CLEAR on, every pass of the coder sends the codes the format has
next. -/
theorem streamHasTheDecodersFormat : Obligations.StreamHasTheDecodersFormat := by
  intro m idx hm hm' hne hidx
  obtain ⟨x, xs, rfl⟩ := List.exists_cons_of_ne_nil hne
  obtain ⟨hx, hxs⟩ := List.forall_mem_cons.1 hidx
  obtain ⟨hstart, hremaining⟩ := Coder.coding_start hm hm' hx
  have hstream := hstart.foldl_endOfInput_s hm hm' (List.forall_mem_map.2 hxs)
  rw [hremaining] at hstream
  rw [streamOf_eq_framed, List.map_cons, widthCodes_cons, bitString, List.flatMap_cons]
  exact hstream

end Sys2Proof.Machine
end

section
/-! Presenting a command word: the outcome of `exec` when the word is rejected, when a precondition
fails and when the body runs, and the step that serves a write to CMD (40_control.md R121 to
R126). -/

namespace Sys2Proof.Machine

variable {s : State} {i : Instr} {v : Word} {rest : List Event}

/-! ## A presented command -/

/-- While BUSY is 1 a command is rejected with its own word in ERRINFO (40_control.md R122). -/
theorem exec_of_busy (h : s.busy = true) (i : Instr) :
    exec i s = .next (s.recordError .cmdWhileBusy (encode i)) := by
  rw [exec_eq_issue, issue_of_busy h]

theorem exec_of_accepted (h : s.busy = false) (hp : preconditionError i s = none) :
    exec i s = .next (bodyOf i s.snapshot (s.accept i)) := by
  rw [exec_eq_issue, issue_of_accepted h hp]

theorem exists_exec_eq_next (i : Instr) (s : State) : ∃ t, exec i s = .next t := by
  rw [exec_eq_issue]
  exact ⟨_, rfl⟩

/-- What acceptance and completion leave together when nothing ran before: DONE, a cleared error
record and CUR_OP, and no running command (40_control.md R124, R125). -/
theorem accept_finish_of_idle (h : s.busy = false) (i : Instr) : (s.accept i).finish =
    { s with done := true, err := false, errCode := .none, errInfo := 0, curOp := i.op } := by
  rw [State.busy_eq_false_iff] at h
  simp only [State.accept, State.finish, h]

/-- A failed precondition leaves its record, DONE and CUR_OP, and nothing else
(60_exceptions.md R254). -/
theorem exec_of_failed (h : s.busy = false) {e : CmdError}
    (hp : preconditionError i s = some e) :
    exec i s = .next { s with
      done := true, err := true, errCode := e.code, errInfo := e.info, curOp := i.op } := by
  have hcommute : ((s.accept i).recordError e.code e.info).finish =
      (s.accept i).finish.recordError e.code e.info := rfl
  rw [exec_eq_issue, issue_of_failed h hp, hcommute, accept_finish_of_idle h]
  rfl

/-! ## The preconditions (40_control.md R126) -/

theorem pixCount_toNat_eq_pixels (s : State) : s.pixCount.toNat = pixels s := s.pixCount_toNat

/-- More than MAX_PIXELS pixels are BAD_GEOM, with a palette or without (60_exceptions.md R257). -/
theorem preconditionError_of_badGeom (hi : checksGeometry i = true)
    (h : s.params.maxPixels < pixels s) :
    preconditionError i s = some ⟨.badGeom, BitVec.ofNat 32 (pixels s)⟩ := by
  rw [preconditionError, State.snapshot_n, pixCount_toNat_eq_pixels, if_pos ⟨hi, h⟩, pixCount_eq]
  rfl

/-- A missing palette is NO_PALETTE where the geometry is in range or is not checked. -/
theorem preconditionError_of_noPalette (hi : checksPalette i = true) (hpal : s.palValid = false)
    (hgeom : checksGeometry i = true → pixels s ≤ s.params.maxPixels) :
    preconditionError i s = some ⟨.noPalette, 0⟩ := by
  rw [preconditionError, State.snapshot_n, pixCount_toNat_eq_pixels,
    if_neg fun h => Nat.not_lt.2 (hgeom h.1) h.2, if_pos ⟨hi, hpal⟩]

/-- NOP and SOFT_RESET check nothing. -/
theorem preconditionError_of_unchecked (hg : checksGeometry i = false)
    (hp : checksPalette i = false) (s : State) : preconditionError i s = none :=
  preconditionError_eq_none_iff.2 ⟨by simp [hg], by simp [hp]⟩

/-! ## The step that serves a write to CMD (40_control.md R121) -/

theorem step_write_cmd (hin : s.inputs = .write cmdOffset v :: rest) :
    step s = presentCommand v (answered s rest .okay 0) := by
  rw [step_of_cons hin, serve_write_cmd]
  rfl

theorem step_write_cmd_of_ok (hin : s.inputs = .write cmdOffset v :: rest)
    (hv : decode v = .ok i) : step s = exec i (answered s rest .okay 0) := by
  rw [step_write_cmd hin, presentCommand_of_ok hv]

/-- While BUSY is 1 every word, legal or not, is rejected in the same way. -/
theorem presentCommand_of_busy (h : s.busy = true) (v : Word) :
    presentCommand v s = .next (s.recordError .cmdWhileBusy v) := by
  cases hv : decode v with
  | ok i => rw [presentCommand_of_ok hv, exec_of_busy h, eq_encode_of_decode hv]
  | error e => rw [presentCommand_of_error hv, if_pos h]

theorem presentCommand_of_badOpcode (h : s.busy = false) {e : DecodeError}
    (hv : decode v = .error e) : presentCommand v s = .next (s.recordError .badOpcode v) := by
  rw [presentCommand_of_error hv, if_neg (by simp [h])]

/-- Presenting a word always ends in a state, with the events to come and the answer kept. -/
theorem presentCommand_samePort (v : Word) (s : State) :
    ∃ t, presentCommand v s = .next t ∧ samePort s t := by
  cases hv : decode v with
  | ok i =>
    obtain ⟨t, ht⟩ := exists_exec_eq_next i s
    obtain ⟨-, hport, -⟩ := commandsKeepPixelsAndConfiguration i s t ht
    exact ⟨t, (presentCommand_of_ok hv s).trans ht, hport⟩
  | error e =>
    refine ⟨_, presentCommand_of_error hv s, ?_⟩
    split <;> exact ⟨rfl, rfl⟩

theorem op_toNat_of_decode (h : decode v = .ok i) : i.op.toNat = v.toNat % 16 := by
  obtain ⟨-, -, hword, hop, -⟩ := opcodeRow i
  rw [eq_encode_of_decode h, hword]
  omega

theorem decode_of_decodeTableWord {w : Nat} (h : decodeTableWord 32 w = some i) :
    decode (BitVec.ofNat 32 (w % 2 ^ 32)) = .ok i := by
  unfold decodeTableWord at h
  split at h
  · split at h
    · next hv =>
      rw [hv, Option.some.inj h]
    · cases h
  · cases h

/-! ## The statements -/

/-- Settles O15: BUSY is looked at first, then the decoder, and presenting a word keeps the answer. -/
theorem cmdWriteProcessing : Obligations.CmdWriteProcessing := by
  intro s v rest hin
  have hstep : step s = presentCommand v (answered s rest .okay 0) := step_write_cmd hin
  rw [hstep]
  refine ⟨fun hb => ?_, fun hb hv => ?_, fun hb hrsvd hop => ?_, ?_⟩
  · exact presentCommand_of_busy (s := answered s rest .okay 0) hb v
  · obtain ⟨e, he⟩ := (decodeAcceptsOnlyCommandWords v).2.1.2 hv.symm
    exact presentCommand_of_badOpcode (s := answered s rest .okay 0) hb he
  · obtain ⟨i, hi⟩ := (exists_decode_ok_iff v).2 ⟨hrsvd, hop⟩
    exact ⟨i, op_toNat_of_decode hi, presentCommand_of_ok hi _⟩
  · obtain ⟨t, ht, -, hresp⟩ := presentCommand_samePort v (answered s rest .okay 0)
    exact ⟨t, ht, hresp⟩

/-- Settles O4: a word put there by withFetchWord is a write to CMD like any other. -/
theorem stepRunsTheWrittenCommand : Obligations.StepRunsTheWrittenCommand :=
  ⟨fun _ _ _ _ hin hv => step_write_cmd_of_ok hin hv, fun s w _ hw =>
    step_write_cmd_of_ok (s := s.withFetchWord 32 w) rfl (decode_of_decodeTableWord hw)⟩

/-- Settles O16: the first check that fails gives the record, and the rest is every failed
precondition's. -/
theorem failedPreconditionChangesOnlyStatus : Obligations.FailedPreconditionChangesOnlyStatus := by
  intro i s hb
  refine ⟨fun hi hn => ?_, fun hi hpal => ?_⟩
  · have hgeom : checksGeometry i = true := by
      rcases hi with rfl | rfl | rfl | rfl | rfl <;> rfl
    exact exec_of_failed hb (preconditionError_of_badGeom hgeom hn)
  · rcases hi with ⟨rfl, hn⟩ | rfl
    · exact exec_of_failed hb (preconditionError_of_noPalette rfl hpal fun _ => hn)
    · exact exec_of_failed hb (preconditionError_of_noPalette rfl hpal fun h => absurd h (by decide))

end Sys2Proof.Machine
end

section
/-! NOP and SOFT_RESET, the W1C of STATUS, and the completion with the configuration writes beside
it (40_control.md R123, R125, R127 to R130). -/

namespace Sys2Proof.Machine

variable {s : State} {r : Reg} {run : Running} {m : Memory}

/-! ## NOP and SOFT_RESET -/

/-- NOP is acceptance and completion (40_control.md R127). -/
theorem exec_nop_of_idle (h : s.busy = false) : exec .nop s = .next { s with
    done := true, err := false, errCode := .none, errInfo := 0, curOp := 0 } := by
  have hbody : bodyOf .nop s.snapshot (s.accept .nop) = (s.accept .nop).finish := rfl
  rw [exec_of_accepted h (preconditionError_of_unchecked rfl rfl s), hbody,
    accept_finish_of_idle h]
  rfl

/-- A palette whose bytes all read 0 is black. -/
theorem palEntry_of_read_eq_zero (h : ∀ a, inPalmem a → m.read a = 0) {k : Nat} (hk : k < 256) :
    m.palEntry k = ⟨0, 0, 0⟩ := by
  have hzero : ∀ d, d < 3 → m.read (palAddr k + d) = 0 := fun d hd => h _ (by
    unfold inPalmem palAddr palBase palEnd
    omega)
  rw [Memory.palEntry, Memory.readColour, hzero 2 (by decide), hzero 1 (by decide),
    show m.read (palAddr k) = 0 from hzero 0 (by decide)]

theorem read_clearPalette_of_inPalmem (m : Memory) {a : Nat} (h : inPalmem a) :
    m.clearPalette.read a = 0 := (Memory.read_clearPalette m a).trans (if_pos h)

/-- With no cell listed, PALMEM reads its reset value (10_state.md R48). -/
theorem read_of_unwritten_of_inPalmem (hm : m.cells = []) {a : Nat} (h : inPalmem a) :
    m.read a = 0 := by
  have hreset : resetByte a = some 0 := if_pos h
  rw [Memory.read, hm]
  exact Memory.unlisted_of_resetByte hreset

/-! ## A write to STATUS (40_control.md R129) -/

theorem writeStatus_eq (v : Word) (s : State) : s.writeStatus v = { s with
    done := s.done && !v.getLsbD 1, err := s.err && !v.getLsbD 2,
    errCode := if v.getLsbD 2 then .none else s.errCode,
    errInfo := if v.getLsbD 2 then 0 else s.errInfo } := by
  unfold State.writeStatus
  cases v.getLsbD 1 <;> cases v.getLsbD 2 <;> simp [State.ackDone, State.ackErr]

/-! ## Configuration writes and the completion (40_control.md R123, R130) -/

/-- The registers a host configures. -/
def Reg.configures : Reg → Bool
  | .ctrl | .geom | .quality | .palbits | .transRgb => true
  | _ => false

theorem hostWrite_of_regAt {a : BitVec 26} (h : regAt a.toNat = some r) (v : Word) (s : State) :
    hostWrite a v s = (writeReg v s r).respond .okay 0 :=
  hostWrite_of_takesWrite (locate_of_regAt h s.params) rfl v

theorem writeReg_mem (v : Word) (s : State) (r : Reg) : (writeReg v s r).mem = s.mem := by
  rcases writeReg_cases v s r with h | h | h | h | h | h | h <;> rw [h] <;> simp

theorem writeReg_finish (hr : r.configures = true) (v : Word) (s : State) :
    writeReg v s.finish r = (writeReg v s r).finish := by
  cases r with
  | ctrl | geom | quality | palbits | transRgb => rfl
  | _ => cases hr

theorem writeReg_recordError (hr : r.configures = true) (v : Word) (s : State) (code : ErrCode)
    (info : Word) :
    writeReg v (s.recordError code info) r = (writeReg v s r).recordError code info := by
  cases r with
  | ctrl | geom | quality | palbits | transRgb => rfl
  | _ => cases hr

/-- The completion writes no configuration register and reads none. -/
theorem writeReg_complete (hr : r.configures = true) (hrun : s.running = some run) (v : Word) :
    writeReg v s.complete r = (writeReg v s r).complete := by
  have hrun' : (writeReg v s r).running = some run :=
    (keepsBusyPeriod_writeReg v s r).running.trans hrun
  cases he : run.error with
  | none =>
    rw [State.complete_of_success hrun he, State.complete_of_success hrun' he, writeReg_finish hr]
  | some e =>
    rw [State.complete_of_error hrun he, State.complete_of_error hrun' he, writeReg_finish hr,
      writeReg_recordError hr]

theorem complete_respond (s : State) (resp : Resp) (d : Word) :
    (s.respond resp d).complete = s.complete.respond resp d := by
  unfold State.complete
  rw [State.respond_running]
  split <;> [rfl; (split <;> rfl)]

/-! ## The statements -/

/-- Settles O21: NOP is acceptance and completion, or a rejected word. -/
theorem nopCompletesAtOnce : Obligations.NopCompletesAtOnce :=
  ⟨fun s hb => ⟨_, exec_nop_of_idle hb, rfl, fun hie => by simp [State.irq, hie]⟩,
    fun _ hb => exec_of_busy hb .nop, _, exec_nop_of_idle rfl, by decide⟩

/-- Settles O22: SOFT_RESET is its body, whose memory has PALMEM cleared, or a rejected word. -/
theorem softResetRestoresRegisters : Obligations.SoftResetRestoresRegisters := by
  refine ⟨fun s hb => ?_, fun s hb => exec_of_busy hb .softReset⟩
  have hsoft : ∀ k, k < 256 → s.mem.clearPalette.palEntry k = ⟨0, 0, 0⟩ := fun k hk =>
    palEntry_of_read_eq_zero (fun _ ha => read_clearPalette_of_inPalmem s.mem ha) hk
  have hinput : ∀ k, k < 256 → (resetInput s).mem.palEntry k = ⟨0, 0, 0⟩ := fun k hk =>
    palEntry_of_read_eq_zero (fun _ ha => read_of_unwritten_of_inPalmem rfl ha) hk
  exact ⟨_, exec_of_accepted hb (preconditionError_of_unchecked rfl rfl s), rfl, hsoft,
    softResetBody_memSameBut s.snapshot (s.accept .softReset), rfl,
    fun k hk => (hinput k hk).trans (hsoft k hk).symm⟩

/-- Settles O17: STATUS takes a write whatever runs, and the write is the W1C. -/
theorem statusWriteOneToClear : Obligations.StatusWriteOneToClear := by
  intro s v rest hin
  have hstep : step s = .next (((s.setInputs rest).writeStatus v).respond .okay 0) :=
    step_write_of_regAt (r := .status) hin rfl (by decide)
  rw [writeStatus_eq] at hstep
  exact ⟨_, hstep, rfl, rfl⟩

/-- Settles O19: the completion is `complete`, with an error or without. -/
theorem completionSetsDone : Obligations.CompletionSetsDone := by
  intro s run rest hrun hin
  have hstep : step s = .next (s.setInputs rest).complete := step_of_cons hin
  have hrun' : (s.setInputs rest).running = some run := hrun
  rw [hstep]
  refine ⟨fun he => ?_, fun e he => ?_⟩
  · rw [State.complete_of_success hrun' he]
    rfl
  · rw [State.complete_of_error hrun' he]
    rfl

/-- Settles O59: each offset is a configuration register's, and the completion does not touch it. -/
theorem configurationWritesMissTheRunningCommand :
    Obligations.ConfigurationWritesMissTheRunningCommand := by
  intro s v a hb ha
  have hreg : (regAt a.toNat).any Reg.configures = true := by
    fin_cases ha <;> rfl
  obtain ⟨r, hr, hconf⟩ := (Option.any_eq_true ..).1 hreg
  obtain ⟨run, hrun⟩ := (State.busy_eq_true_iff s).1 hb
  simp only [hostWrite_of_regAt hr]
  refine ⟨?_, (keepsBusyPeriod_writeReg v s r).running, writeReg_mem v s r⟩
  rw [complete_respond, writeReg_complete hconf hrun]

end Sys2Proof.Machine
end

section
/-! The training functions neuron by neuron, and i32 arithmetic below 2^31 as arithmetic of naturals
(41_quantizer.md R143, R148 to R152). -/

namespace Sys2Proof.Machine

variable {a b : I32}

/-! ## Words below 2^31 -/

theorem toInt_of_small (h : a.toNat < 2 ^ 31) : a.toInt = a.toNat :=
  BitVec.toInt_eq_toNat_of_lt (by omega)

theorem msb_of_small (h : a.toNat < 2 ^ 31) : a.msb = false :=
  BitVec.msb_eq_false_iff_two_mul_lt.2 (by omega)

theorem sdiv_toNat_of_small (ha : a.toNat < 2 ^ 31) (hb : b.toNat < 2 ^ 31) :
    (a.sdiv b).toNat = a.toNat / b.toNat := by
  rw [BitVec.sdiv_eq, msb_of_small ha, msb_of_small hb]
  exact BitVec.toNat_udiv

theorem srem_toNat_of_small (ha : a.toNat < 2 ^ 31) (hb : b.toNat < 2 ^ 31) :
    (a.srem b).toNat = a.toNat % b.toNat := by
  rw [BitVec.srem_eq, msb_of_small ha, msb_of_small hb]
  exact BitVec.toNat_umod

theorem slt_iff_of_small (ha : a.toNat < 2 ^ 31) (hb : b.toNat < 2 ^ 31) :
    a.slt b = true ↔ a.toNat < b.toNat := by
  rw [BitVec.slt_iff_toInt_lt, toInt_of_small ha, toInt_of_small hb, Int.ofNat_lt]

theorem sle_iff_of_small (ha : a.toNat < 2 ^ 31) (hb : b.toNat < 2 ^ 31) :
    a.sle b = true ↔ a.toNat ≤ b.toNat := by
  rw [BitVec.sle_iff_toInt_le, toInt_of_small ha, toInt_of_small hb, Int.ofNat_le]

theorem sshiftRight_toNat_of_small (ha : a.toNat < 2 ^ 31) (n : Nat) :
    (a.sshiftRight n).toNat = a.toNat / 2 ^ n := by
  rw [BitVec.sshiftRight_eq_of_msb_false (msb_of_small ha), BitVec.toNat_ushiftRight,
    Nat.shiftRight_eq_div_pow]

/-! ## The network after each part of a pass -/

/-- What the competition does to each neuron: the decay, and the reward of the nearest one. -/
theorem contest_getElem? (x : Sample) (net : List Neuron) (k : Nat) :
    (contest x net).1[k]? = net[k]?.map fun u =>
      if (contestScan x 0 net contestStart).bestpos.toNat = k then contestReward (contestDecay u)
      else contestDecay u := by
  simp only [contest, List.getElem?_modify, List.getElem?_map, Option.map_eq_map, Option.map_map]
  rfl

/-- The winner's move changes no other neuron (41_quantizer.md R150). -/
theorem alterSingle_getElem? (alpha : I32) (j : Int) (x : Sample) (net : List Neuron) (k : Nat) :
    (alterSingle alpha j x net)[k]? =
      net[k]?.map fun u => if j.toNat = k then moveToward alpha initAlpha x u else u := by
  rw [alterSingle, List.getElem?_modify]
  rfl

/-- The neurons of a network one of whose neurons was updated. -/
theorem forall_mem_modify {P : Neuron → Prop} {net : List Neuron} {f : Neuron → Neuron} (i : Nat)
    (h : ∀ u ∈ net, P u) (hf : ∀ u, P u → P (f u)) : ∀ u ∈ net.modify i f, P u := by
  intro u hu
  obtain ⟨k, hk⟩ := List.mem_iff_getElem?.1 hu
  rw [List.getElem?_modify] at hk
  obtain ⟨v, hv, rfl⟩ := Option.map_eq_some_iff.1 hk
  have hPv := h v (List.mem_of_getElem? hv)
  split
  · exact hf v hPv
  · exact hPv

/-! ## The loop -/

theorem learnPasses_eq_iterate (pix : Nat → RGB) (n : I32) (k : Nat) :
    ∀ t : Training, learnPasses pix n k t = (learnPass pix n)^[k] t := by
  induction k with
  | zero => intro t; rfl
  | succ k ih => exact fun t => ih (learnPass pix n t)

/-- The number of passes of the loop (41_quantizer.md R148). -/
def passesOf (n q : I32) : Nat := (trainingStart n q).samplepixels.toInt.toNat

theorem learn_eq_iterate (pix : Nat → RGB) (n q : I32) :
    learn pix n q = (learnPass pix n)^[passesOf n q] (trainingStart n q) :=
  learnPasses_eq_iterate pix n _ _

/-- What the start has and every pass keeps, the trained state has. -/
theorem learn_of_invariant {P : Training → Prop} {pix : Nat → RGB} {n q : I32}
    (hstart : P (trainingStart n q)) (hpass : ∀ t, P t → P (learnPass pix n t)) :
    P (learn pix n q) := by
  rw [learn_eq_iterate]
  exact Function.Iterate.rec P hstart hpass _

end Sys2Proof.Machine
end

section
/-! The competition picks the lowest neuron of least distance and of least biased distance
(41_quantizer.md R149). -/

namespace Sys2Proof.Machine

variable {x : Sample} {f dist biasdist : Nat → I32} {n : Nat} {best : I32} {pos : Int}

/-- A running minimum of the competition over the neurons 0 to n - 1: still at its start before the
first neuron, and then the least value with the lowest number that has it. -/
def IsRunningMin (f : Nat → I32) (n : Nat) (best : I32) (pos : Int) : Prop :=
  (n = 0 ∧ best = 0x7FFFFFFF) ∨
  ∃ k, k < n ∧ pos = k ∧ best = f k ∧
    ∀ i, i < n → (f k).toInt ≤ (f i).toInt ∧ (i < k → (f k).toInt < (f i).toInt)

/-- One strict comparison keeps the lowest number at the least value. -/
theorem IsRunningMin.next (h : IsRunningMin f n best pos) (hf : (f n).slt 0x7FFFFFFF = true) :
    IsRunningMin f (n + 1) (if (f n).slt best then f n else best)
      (if (f n).slt best then (n : Int) else pos) := by
  rcases h with ⟨rfl, rfl⟩ | ⟨k, hk, rfl, rfl, hmin⟩
  · refine .inr ⟨0, by omega, by rw [if_pos hf], by rw [if_pos hf], fun i hi => ?_⟩
    obtain rfl : i = 0 := by omega
    omega
  · by_cases hlt : (f n).slt (f k) = true
    · have hless : (f n).toInt < (f k).toInt := BitVec.slt_iff_toInt_lt.1 hlt
      refine .inr ⟨n, by omega, by rw [if_pos hlt], by rw [if_pos hlt], fun i hi => ?_⟩
      rcases Nat.lt_succ_iff_lt_or_eq.1 hi with hi | rfl
      · obtain ⟨hle, -⟩ := hmin i hi
        omega
      · omega
    · have hless : ¬ (f n).toInt < (f k).toInt := fun h => hlt (BitVec.slt_iff_toInt_lt.2 h)
      refine .inr ⟨k, by omega, by rw [if_neg hlt], by rw [if_neg hlt], fun i hi => ?_⟩
      rcases Nat.lt_succ_iff_lt_or_eq.1 hi with hi | rfl
      · exact hmin i hi
      · omega

/-- After at least one neuron the running minimum is one of them. -/
theorem IsRunningMin.exists_pos (h : IsRunningMin f n best pos) (hn : n ≠ 0) :
    ∃ k, k < n ∧ pos = k ∧
      ∀ i, i < n → (f k).toInt ≤ (f i).toInt ∧ (i < k → (f k).toInt < (f i).toInt) := by
  rcases h with ⟨rfl, -⟩ | ⟨k, hk, hpos, -, hmin⟩
  · exact absurd rfl hn
  · exact ⟨k, hk, hpos, hmin⟩

/-- The two functions give the distance and the biased distance of a network's neurons from number n
on, all of them below the start of the minima. -/
def GivesDistances (x : Sample) (dist biasdist : Nat → I32) (n : Nat) (net : List Neuron) : Prop :=
  ∀ k u, net[k]? = some u → dist (n + k) = neuronDist x u ∧
    biasdist (n + k) = neuronDist x u - u.bias.sshiftRight 12 ∧
    (dist (n + k)).slt 0x7FFFFFFF = true ∧ (biasdist (n + k)).slt 0x7FFFFFFF = true

/-- The scan keeps both running minima. -/
theorem contestScan_isRunningMin (net : List Neuron) : ∀ (n : Nat) (c : Contest),
    GivesDistances x dist biasdist n net →
    IsRunningMin dist n c.bestd c.bestpos → IsRunningMin biasdist n c.bestbiasd c.bestbiaspos →
    IsRunningMin dist (n + net.length) (contestScan x n net c).bestd
        (contestScan x n net c).bestpos ∧
      IsRunningMin biasdist (n + net.length) (contestScan x n net c).bestbiasd
        (contestScan x n net c).bestbiaspos := by
  induction net with
  | nil => exact fun n c _ hd hb => ⟨hd, hb⟩
  | cons u us ih =>
    intro n c hdist hd hb
    obtain ⟨hdu, hbu, hdmax, hbmax⟩ := hdist 0 u rfl
    rw [Nat.add_zero] at hdu hbu hdmax hbmax
    have hus : GivesDistances x dist biasdist (n + 1) us := fun k v hk => by
      rw [Nat.add_assoc, Nat.add_comm 1 k]
      exact hdist (k + 1) v hk
    have hd' := hd.next hdmax
    have hb' := hb.next hbmax
    rw [hdu] at hd'
    rw [hbu] at hb'
    rw [List.length_cons, Nat.add_comm us.length 1, ← Nat.add_assoc]
    exact ih (n + 1) (contestMinima x n u c) hus hd' hb'

/-- Settles O30: the scan keeps two running minima, whose numbers name the winner and the rewarded
neuron. -/
theorem contestPicksTheLowestLeast : Obligations.ContestPicksTheLowestLeast := by
  intro x net dist biasdist hdist hnil
  have hgives : GivesDistances x dist biasdist 0 net := by
    simpa only [GivesDistances, Nat.zero_add] using hdist
  obtain ⟨hd, hb⟩ := contestScan_isRunningMin net 0 contestStart hgives (.inl ⟨rfl, rfl⟩)
    (.inl ⟨rfl, rfl⟩)
  have hlen : 0 + net.length ≠ 0 := by simpa using hnil
  obtain ⟨kd, hkd, hposd, hmind⟩ := hd.exists_pos hlen
  obtain ⟨kb, hkb, hposb, hminb⟩ := hb.exists_pos hlen
  rw [Nat.zero_add] at hkd hmind hkb hminb
  refine ⟨kd, kb, hkd, hkb, hposb, hminb, hmind, fun k u hk => ?_⟩
  rw [contest_getElem?, hk, hposd, Int.toNat_natCast, Option.map_some]
  refine ⟨_, rfl, ?_⟩
  rcases eq_or_ne k kd with rfl | hne
  · rw [if_pos rfl, if_pos rfl, if_pos rfl]
    exact ⟨rfl, rfl, rfl, rfl, rfl⟩
  · rw [if_neg hne.symm, if_neg hne, if_neg hne, BitVec.add_zero, BitVec.sub_zero]
    exact ⟨rfl, rfl, rfl, rfl, rfl⟩

end Sys2Proof.Machine
end

section
/-! The neighbours' move: pass m of the loop moves the neurons at distance m (41_quantizer.md
R151). -/

namespace Sys2Proof.Machine

variable {radpower : List I32} {x : Sample} {net : List Neuron} {u : Neuron} {j k : Nat}

/-- How far neuron k is from the winner j. -/
def winnerDist (k j : Nat) : Nat := ((k : Int) - j).natAbs

/-- Neuron k, of value u, after the passes from m on with the radius rad and the winner j. -/
def movedFrom (radpower : List I32) (rad : Int) (j : Nat) (x : Sample) (m k : Nat) (u : Neuron) :
    Neuron :=
  if m ≤ winnerDist k j ∧ (winnerDist k j : Int) < rad then
    moveToward (radpower.getD (winnerDist k j) 0) alphaRadBias x u
  else u

/-- Pass m moves the neurons at distance m, and the passes after it the others. -/
theorem movedFrom_succ (rad : Int) (m : Nat) : movedFrom radpower rad j x m k u =
    if winnerDist k j = m ∧ (m : Int) < rad then moveToward (radpower.getD m 0) alphaRadBias x u
    else movedFrom radpower rad j x (m + 1) k u := by
  unfold movedFrom
  by_cases h : winnerDist k j = m ∧ (m : Int) < rad
  · obtain ⟨rfl, hlt⟩ := h
    rw [if_pos ⟨le_rfl, hlt⟩, if_pos ⟨rfl, hlt⟩]
  · rw [if_neg h]
    refine if_congr ⟨fun hm => ⟨?_, hm.2⟩, fun hm => ⟨by omega, hm.2⟩⟩ rfl rfl
    omega

/-- The cursors of the loop before pass m: each stands at distance m from the winner, or has come to
its end. -/
structure NeighbourCursors (j m : Nat) (lo hi aHi aLo : Int) : Prop where
  up : aHi = j + m ∨ hi ≤ aHi ∧ aHi ≤ j + m
  down : aLo = j - m ∨ aLo ≤ lo ∧ (j : Int) - m ≤ aLo

theorem NeighbourCursors.next {m : Nat} {lo hi aHi aLo : Int}
    (h : NeighbourCursors j m lo hi aHi aLo) :
    NeighbourCursors j (m + 1) lo hi (if aHi < hi then aHi + 1 else aHi)
      (if lo < aLo then aLo - 1 else aLo) := by
  obtain ⟨hup, hdown⟩ := h
  constructor
  · split <;> omega
  · split <;> omega

/-- An update under a condition, neuron by neuron. -/
theorem getElem?_ite_modify (c : Prop) [Decidable c] (i : Nat) (f : Neuron → Neuron)
    (hu : net[k]? = some u) :
    (if c then net.modify i f else net)[k]? = some (if c ∧ i = k then f u else u) := by
  by_cases hc : c
  · rw [if_pos hc, List.getElem?_modify, hu, if_congr (and_iff_right hc) rfl rfl]
    rfl
  · rw [if_neg hc, hu, if_neg fun h => hc h.1]

/-- One pass moves the neurons at distance m, each once: m is at least 1, so the two cursors stand
on different neurons. -/
theorem neighbourPass_getElem? {m : Nat} {rad aHi aLo : Int} (f : Neuron → Neuron)
    (h : NeighbourCursors j m (max (j - rad) (-1)) (min (j + rad) 256) aHi aLo) (hm : 1 ≤ m)
    (hk : k < 256) (hu : net[k]? = some u) :
    (if max (j - rad) (-1) < aLo then
        (if aHi < min (j + rad) 256 then net.modify aHi.toNat f else net).modify aLo.toNat f
      else if aHi < min (j + rad) 256 then net.modify aHi.toNat f else net)[k]? =
      some (if winnerDist k j = m ∧ (m : Int) < rad then f u else u) := by
  obtain ⟨hup, hdown⟩ := h
  rw [getElem?_ite_modify _ _ f (getElem?_ite_modify _ _ f hu)]
  congr 1
  unfold winnerDist
  by_cases hhigh : aHi < min (j + rad) 256 ∧ aHi.toNat = k
  · rw [if_pos hhigh, if_neg (by omega), if_pos (by omega)]
  · rw [if_neg hhigh]
    exact if_congr (by omega) rfl rfl

/-- The loop from pass m on, with passes enough for every distance below the radius. -/
theorem alterNeighLoop_getElem? {rad : Int} (hk : k < 256) (fuel : Nat) :
    ∀ (m : Nat) (aHi aLo : Int) (net : List Neuron) (u : Neuron), 1 ≤ m → rad ≤ m + fuel →
      NeighbourCursors j m (max (j - rad) (-1)) (min (j + rad) 256) aHi aLo → net[k]? = some u →
      (alterNeighLoop radpower x (max (j - rad) (-1)) (min (j + rad) 256) fuel aHi aLo m net)[k]? =
        some (movedFrom radpower rad j x m k u) := by
  induction fuel with
  | zero =>
    intro m aHi aLo net u _ hrad _ hu
    rw [alterNeighLoop, hu, movedFrom, if_neg (by omega)]
  | succ fuel ih =>
    intro m aHi aLo net u hm hrad h hu
    unfold alterNeighLoop
    split
    · have hpass := neighbourPass_getElem? (moveToward (radpower.getD m 0) alphaRadBias x)
        h hm hk hu
      refine (ih (m + 1) _ _ _ _ (by omega) (by omega) h.next hpass).trans (congrArg some ?_)
      rw [movedFrom_succ rad m]
      split
      · rw [movedFrom, if_neg (by omega)]
      · rfl
    · obtain ⟨hup, hdown⟩ := h
      rw [hu, movedFrom, if_neg (by unfold winnerDist; omega)]

/-- Settles O31: the loop starts at distance 1, and 256 passes reach every distance below the
radius. -/
theorem neighboursMoveByTheirDistance : Obligations.NeighboursMoveByTheirDistance := by
  intro radpower rad j x net k u hlen hj hpos hrad hu
  have hk : k < 256 := hlen ▸ (List.getElem?_eq_some_iff.1 hu).1
  refine (alterNeighLoop_getElem? hk 256 1 (j + 1) (j - 1) net u le_rfl (by omega)
    ⟨.inl rfl, .inl rfl⟩ hu).trans (congrArg some ?_)
  exact if_congr (by unfold winnerDist; omega) rfl rfl

end Sys2Proof.Machine
end

section
/-! The parameters and the schedule of the training (41_quantizer.md R144 to R148, R150, R152). -/

namespace Sys2Proof.Machine

variable {n : Nat} {q : BitVec 16} {pix : Nat → RGB} {t : Training}

/-! ## The start, on the naturals -/

theorem toNat_ofNat_of_le (h : n ≤ 2 ^ 22) : (BitVec.ofNat 32 n).toNat = n :=
  Nat.mod_eq_of_lt (by omega)

theorem three_mul_toNat {a : I32} (h : a.toNat ≤ 2 ^ 22) : (3 * a).toNat = 3 * a.toNat :=
  BitVec.toNat_mul_of_lt (by simp only [BitVec.reduceToNat]; omega)

theorem lengthcount_toNat (h : n ≤ 2 ^ 22) : (3 * BitVec.ofNat 32 n : I32).toNat = 3 * n := by
  have hn := toNat_ofNat_of_le h
  rw [three_mul_toNat (by omega), hn]

/-- Frames of less than 503 pixels are not subsampled. -/
theorem slt_minPictureBytes_iff (h : n ≤ 2 ^ 22) :
    (3 * BitVec.ofNat 32 n : I32).slt minPictureBytes = true ↔ 3 * n < 1509 := by
  have hn := lengthcount_toNat h
  rw [slt_iff_of_small (by omega) (by decide), hn]
  rfl

theorem srem_ne_zero_iff (h : n ≤ 2 ^ 22) {p : I32} (hp : p.toNat < 2 ^ 31) :
    (BitVec.ofNat 32 n).srem p ≠ 0 ↔ n % p.toNat ≠ 0 := by
  have hn := toNat_ofNat_of_le h
  have hrem := srem_toNat_of_small (a := BitVec.ofNat 32 n) (by omega) hp
  rw [hn] at hrem
  rw [Ne, ← BitVec.toNat_inj, hrem]
  rfl

theorem sampleStep_toNat (h : n ≤ 2 ^ 22) : (sampleStep (BitVec.ofNat 32 n)).toNat =
    if 3 * n < 1509 then 1 else if n % 499 ≠ 0 then 499
      else if n % 491 ≠ 0 then 491 else if n % 487 ≠ 0 then 487 else 503 := by
  unfold sampleStep
  simp only [slt_minPictureBytes_iff h, srem_ne_zero_iff h (p := prime1) (by decide),
    srem_ne_zero_iff h (p := prime2) (by decide), srem_ne_zero_iff h (p := prime3) (by decide),
    apply_ite BitVec.toNat]
  rfl

theorem samplefac_toNat (h : n ≤ 2 ^ 22) (q : BitVec 16) :
    (trainingStart (BitVec.ofNat 32 n) (q.setWidth 32)).samplefac.toNat =
      if 3 * n < 1509 then 1 else q.toNat := by
  have hq : (q.setWidth 32).toNat = q.toNat := BitVec.toNat_setWidth_of_le (by decide)
  simp only [trainingStart, slt_minPictureBytes_iff h, apply_ite BitVec.toNat, hq]
  rfl

theorem trainingStart_samplepixels (n q : I32) : (trainingStart n q).samplepixels =
    (3 * n).sdiv (3 * (trainingStart n q).samplefac) := rfl

theorem trainingStart_delta (n q : I32) :
    (trainingStart n q).delta = (trainingStart n q).samplepixels.sdiv 100 := rfl

theorem trainingStart_alphadec (n q : I32) :
    (trainingStart n q).alphadec = 30 + ((trainingStart n q).samplefac - 1).sdiv 3 := rfl

/-- The number of samples, in the rule's own expression (41_quantizer.md R145). -/
theorem samplepixels_toNat (h : n ≤ 2 ^ 22) (q : BitVec 16) :
    (trainingStart (BitVec.ofNat 32 n) (q.setWidth 32)).samplepixels.toNat =
      3 * n / (3 * if 3 * n < 1509 then 1 else q.toNat) := by
  have hlen := lengthcount_toNat h
  have hfac := samplefac_toNat h q
  have hsmall : (trainingStart (BitVec.ofNat 32 n) (q.setWidth 32)).samplefac.toNat ≤ 2 ^ 16 := by
    rw [hfac]
    split <;> omega
  have hthree := three_mul_toNat (hsmall.trans (by decide))
  rw [← hfac, ← hlen, ← hthree, trainingStart_samplepixels]
  exact sdiv_toNat_of_small (by omega) (by omega)

theorem delta_toNat (h : n ≤ 2 ^ 22) (q : BitVec 16) :
    (trainingStart (BitVec.ofNat 32 n) (q.setWidth 32)).delta.toNat =
      3 * n / (3 * if 3 * n < 1509 then 1 else q.toNat) / 100 := by
  have hpixels := samplepixels_toNat h q
  have hle := Nat.div_le_self (3 * n) (3 * if 3 * n < 1509 then 1 else q.toNat)
  rw [← hpixels, trainingStart_delta]
  exact sdiv_toNat_of_small (by omega) (by decide)

theorem alphadec_of_samplefac {f : I32} (hone : 1 ≤ f.toNat) (hmax : f.toNat < 2 ^ 31) :
    (30 + (f - 1).sdiv 3).toNat = 30 + (f.toNat - 1) / 3 := by
  have hpred : (f - 1).toNat = f.toNat - 1 := BitVec.toNat_sub_of_le hone
  have hdiv : ((f - 1).sdiv 3).toNat = (f.toNat - 1) / 3 := by
    rw [sdiv_toNat_of_small (by omega) (by decide), hpred]
    rfl
  rw [← hdiv]
  exact BitVec.toNat_add_of_lt (by rw [hdiv]; simp only [BitVec.reduceToNat]; omega)

theorem alphadec_toNat (h : n ≤ 2 ^ 22) (hq : q ≠ 0) :
    (trainingStart (BitVec.ofNat 32 n) (q.setWidth 32)).alphadec.toNat =
      30 + ((if 3 * n < 1509 then 1 else q.toNat) - 1) / 3 := by
  have hfac := samplefac_toNat h q
  have hpos : q.toNat ≠ 0 := fun h => hq (BitVec.eq_of_toNat_eq h)
  have hrange : 1 ≤ (if 3 * n < 1509 then 1 else q.toNat) ∧
      (if 3 * n < 1509 then 1 else q.toNat) < 2 ^ 16 := by split <;> omega
  rw [trainingStart_alphadec, alphadec_of_samplefac (by omega) (by omega), hfac]

/-- Neuron k starts on the grey diagonal at 16k (41_quantizer.md R144). -/
theorem initNeuron_eq {k : Nat} (hk : k < 256) : initNeuron k =
    ⟨BitVec.ofNat 32 (16 * k), BitVec.ofNat 32 (16 * k), BitVec.ofNat 32 (16 * k), 256, 0⟩ := by
  have hshift : (BitVec.ofNat 32 k <<< 12).toNat = k * 4096 := by
    rw [BitVec.toNat_shiftLeft, toNat_ofNat_of_le (by omega), Nat.shiftLeft_eq]
    exact Nat.mod_eq_of_lt (by omega)
  have hchannel : (BitVec.ofNat 32 k <<< 12).sdiv (BitVec.ofNat 32 netSize) =
      BitVec.ofNat 32 (16 * k) := by
    have hsize : (BitVec.ofNat 32 netSize).toNat = 256 := rfl
    refine BitVec.eq_of_toNat_eq ?_
    rw [sdiv_toNat_of_small (by omega) (by decide), hshift, hsize, toNat_ofNat_of_le (by omega)]
    omega
  rw [initNeuron, hchannel]
  rfl

theorem initNetwork_getElem? {k : Nat} (hk : k < 256) : initNetwork[k]? = some
    ⟨BitVec.ofNat 32 (16 * k), BitVec.ofNat 32 (16 * k), BitVec.ofNat 32 (16 * k), 256, 0⟩ := by
  rw [initNetwork, List.getElem?_map, netSize, List.getElem?_range hk, Option.map_some,
    initNeuron_eq hk]

/-- The weights before the first sample, for alpha 1024 and rad 32 (41_quantizer.md R146). -/
theorem radpower_start : ∀ k, k < 32 →
    (setRadpower initAlpha (radOf initRadius) (List.replicate 32 0))[k]? =
      some (BitVec.ofNat 32 (1024 * ((32 * 32 - k * k) * 256 / (32 * 32)))) := by decide

/-! ## One pass -/

theorem learnPass_pos (n : I32) : (learnPass pix n t).pos = nextPos n t := learnSchedule_pos _

theorem learnPass_i (n : I32) : (learnPass pix n t).i = t.i + 1 := learnSchedule_i _

theorem learnPass_delta (n : I32) :
    (learnPass pix n t).delta = if t.delta = 0 then 1 else t.delta := learnSchedule_delta _

theorem nextPos_eq (n : I32) (t : Training) : nextPos n t =
    if n.toInt ≤ (t.pos + t.step).toInt then t.pos + t.step - n else t.pos + t.step :=
  if_congr BitVec.sle_iff_toInt_le rfl rfl

theorem radOf_eq (radius : I32) : radOf radius =
    if (radius.sshiftRight 6).toInt ≤ 1 then 0 else radius.sshiftRight 6 :=
  if_congr BitVec.sle_iff_toInt_le rfl rfl

/-- The pass decays exactly when the new count is a multiple of the new delta. -/
theorem learnPass_of_due {n : I32} (h : (learnPass pix n t).i.srem (learnPass pix n t).delta = 0) :
    learnPass pix n t = decay (learnAdvance pix n t) := by
  rw [learnPass_i, learnPass_delta] at h
  exact learnSchedule_of_due h

theorem learnPass_of_not_due {n : I32}
    (h : (learnPass pix n t).i.srem (learnPass pix n t).delta ≠ 0) :
    learnPass pix n t = learnAdvance pix n t := by
  rw [learnPass_i, learnPass_delta] at h
  exact learnSchedule_of_not_due h

/-- The weights below rad are the rule's, the others stay (41_quantizer.md R146). -/
theorem setRadpower_spec {alpha rad : I32} {old : List I32} (hlen : old.length = 32)
    (hrad : rad.toInt ≤ 32) : (setRadpower alpha rad old).length = 32 ∧
      ∀ k : Nat, k < 32 → (setRadpower alpha rad old)[k]? = some (if (k : Int) < rad.toInt
        then radWeight alpha rad (BitVec.ofNat 32 k) else old.getD k 0) := by
  refine ⟨(setRadpower_length (by omega) alpha).trans hlen, fun k hk => ?_⟩
  have hold : old[k]? = some (old.getD k 0) := by
    rw [List.getD_eq_getElem?_getD, List.getElem?_eq_getElem (by omega), Option.getD_some]
  rw [setRadpower_getElem?, hold, apply_ite some]
  exact if_congr (by omega) rfl rfl

/-! ## The statement -/

/-- Settles O60: the start is computed on the naturals, a pass is its advance with the decay when it
is due, and the loop is an iterate. -/
theorem learningFollowsItsSchedule : Obligations.LearningFollowsItsSchedule := by
  refine ⟨fun n q _ hn hq => ?_, fun pix n t => ?_, fun alpha j x net k u hu => ?_,
    learn_eq_iterate⟩
  · exact ⟨samplefac_toNat hn q, alphadec_toNat hn hq, samplepixels_toNat hn q, delta_toNat hn q,
      rfl, rfl, rfl, rfl, rfl, sampleStep_toNat hn, initNetwork_length,
      fun _ hk => initNetwork_getElem? hk, rfl, radpower_start⟩
  · refine ⟨?_, ?_, learnPass_i n, learnPass_delta n, learnSchedule_samplefac _,
      learnSchedule_alphadec _, learnSchedule_samplepixels _, learnSchedule_step _, fun h => ?_,
      fun h => ?_⟩
    · rw [learnPass_net]
      exact ite_not ..
    · rw [learnPass_pos, nextPos_eq]
    · rw [learnPass_of_not_due h]
      exact ⟨rfl, rfl, rfl, rfl⟩
    · rw [learnPass_of_due h]
      exact ⟨rfl, rfl, radOf_eq _, fun hlen hrad => setRadpower_spec hlen hrad⟩
  · rw [alterSingle_getElem?, hu, Int.toNat_natCast]
    exact congrArg some (if_congr eq_comm rfl rfl)

end Sys2Proof.Machine
end

section
/-! TRAIN writes the frozen network to PALMEM, and without a sample the starting network
(41_quantizer.md R140, R153, R154, R157). -/

namespace Sys2Proof.Machine

variable {s : State}

/-- TRAIN with N within the capacity is its body. -/
theorem exec_train_of_accepted (hb : s.busy = false) (hn : pixels s ≤ s.params.maxPixels) :
    exec .train s = .next (trainPhase s.snapshot (s.accept .train)) :=
  exec_of_accepted hb (preconditionError_eq_none_iff.2
    ⟨fun _ => by rwa [pixCount_toNat_eq_pixels], fun h => absurd h (by decide)⟩)

/-- The learning of TRAIN, on the registers and the pixels (41_quantizer.md R140). -/
def trainedState (s : State) : Training :=
  learn s.mem.pixel (BitVec.ofNat 32 (pixels s)) (s.quality.setWidth 32)

theorem trainingOf_accept (s : State) :
    trainingOf s.snapshot (s.accept .train) = trainedState s := by
  rw [trainingOf, State.snapshot_n, pixCount_eq]
  rfl

theorem exists_trainedState_neuron (s : State) {k : Nat} (hk : k < 256) :
    ∃ u, (trainedState s).net[k]? = some u :=
  ⟨_, List.getElem?_eq_getElem (by rwa [trainedState, learn_net_length])⟩

/-- Palette entry k after TRAIN is the frozen neuron k (41_quantizer.md R153). -/
theorem trainPhase_palEntry (s : State) {k : Nat} (hk : k < 256) {u : Neuron}
    (hu : (trainedState s).net[k]? = some u) :
    (trainPhase s.snapshot (s.accept .train)).mem.palEntry k = freezeNeuron u := by
  rw [trainPhase_mem, trainingOf_accept]
  have hlen : k < (paletteOf (trainedState s)).length := by rwa [trainedState, paletteOf_length]
  refine (Memory.readColour_writeColours _ _ (palAddr 0) k hlen).trans ?_
  rw [paletteOf, List.getD_eq_getElem?_getD, List.getElem?_map, hu]
  rfl

/-- Settles O25: the body's fields are its own rules, and its palette is the frozen network. -/
theorem trainFreezesTheNetwork : Obligations.TrainFreezesTheNetwork := by
  intro s hb hn
  refine ⟨_, exec_train_of_accepted hb hn, ?_, trainPhase_palValid _ _, trainPhase_used _ _,
    fun k hk => ?_, trainPhase_memSameBut _ _, bodyOf_sameConfig (i := .train) (by decide) _ _,
    bodyOf_samePort .train _ _, ⟨trainPhase_outValid _ _, trainPhase_outLen _ _⟩,
    trainPhase_transIndex _ _, trainPhase_free _ _⟩
  · exact ⟨trainPhase_done _ _, trainPhase_err _ _, trainPhase_errCode _ _, trainPhase_errInfo _ _,
      trainPhase_curOp _ _, _, trainPhase_running _ _, rfl, rfl⟩
  · obtain ⟨u, hu⟩ := exists_trainedState_neuron s hk
    exact ⟨u, hu, trainPhase_palEntry s hk hu⟩

/-! ## No sample (41_quantizer.md R157) -/

/-- With N of 503 or more and Q above N there is no pass. -/
theorem learn_of_no_sample {n : Nat} {q : BitVec 16} (pix : Nat → RGB) (hn : 503 ≤ n)
    (hq : n < q.toNat) : learn pix (BitVec.ofNat 32 n) (q.setWidth 32) =
      trainingStart (BitVec.ofNat 32 n) (q.setWidth 32) := by
  have hpixels := samplepixels_toNat (n := n) (by omega) q
  rw [if_neg (by omega), Nat.div_eq_of_lt (by omega)] at hpixels
  have hpasses : passesOf (BitVec.ofNat 32 n) (q.setWidth 32) = 0 := by
    rw [passesOf, toInt_of_small (by omega), hpixels]
    rfl
  rw [learn_eq_iterate, hpasses]
  rfl

/-- Neuron k of the start freezes to grey k (41_quantizer.md R144, R153). -/
theorem freezeChannel_start {k : Nat} (hk : k < 256) :
    freezeChannel (BitVec.ofNat 32 (16 * k)) = BitVec.ofNat 8 k := by
  have hchannel := toNat_ofNat_of_le (n := 16 * k) (by omega)
  refine BitVec.eq_of_toNat_eq ?_
  rw [freezeChannel, BitVec.toNat_setWidth, sshiftRight_toNat_of_small (by omega), hchannel,
    BitVec.toNat_ofNat, netBiasShift]
  omega

/-- Settles O26: without a pass the frozen network is the start's. -/
theorem trainWithoutSamplesGivesTheRamp : Obligations.TrainWithoutSamplesGivesTheRamp := by
  intro s hb hn hmin hq
  refine ⟨_, exec_train_of_accepted hb hn, fun k hk => ?_⟩
  have hnet : (trainedState s).net = initNetwork := by
    rw [trainedState, learn_of_no_sample _ hmin hq]
    rfl
  rw [trainPhase_palEntry s hk (by rw [hnet, initNetwork_getElem? hk]), freezeNeuron]
  simp only [freezeChannel_start hk]

end Sys2Proof.Machine
end

section
/-! Every channel of the network stays in 0..4080 through the training (41_quantizer.md R155): a
move with a weight between 0 and its divisor ends between the channel and the sample's. -/

namespace Sys2Proof.Machine

variable {a d c x alpha rad radius : I32} {u : Neuron} {y : Sample} {t : Training} {w : List I32}

/-! ## One channel's move -/

/-- The product of a move does not leave the i32 range (41_quantizer.md R143). -/
theorem channelMove_toInt (ha : a.toNat ≤ d.toNat) (hd : d.toNat ≤ 262144) (hc : c.toNat ≤ 4080)
    (hx : x.toNat ≤ 4080) :
    ((a * (c - x)).sdiv d).toInt = ((a.toNat : Int) * (c.toNat - x.toNat)).tdiv d.toNat := by
  have hdiff : (c - x).toInt = (c.toNat : Int) - x.toNat := by
    rw [BitVec.toInt_sub, toInt_of_small (by omega), toInt_of_small (by omega)]
    exact Int.bmod_eq_of_le (by omega) (by omega)
  have hbound : |(a.toNat : Int) * (c.toNat - x.toNat)| ≤ 262144 * 4080 := by
    rw [abs_mul, Nat.abs_cast]
    exact mul_le_mul (by omega) (abs_le.2 (by omega)) (abs_nonneg _) (by decide)
  obtain ⟨hlow, hhigh⟩ := abs_le.1 hbound
  have hprod : (a * (c - x)).toInt = (a.toNat : Int) * (c.toNat - x.toNat) := by
    rw [BitVec.toInt_mul, hdiff, toInt_of_small (by omega)]
    exact Int.bmod_eq_of_le (by omega) (by omega)
  rw [BitVec.toInt_sdiv_of_ne_or_ne _ _ (.inr ?_), hprod, toInt_of_small (by omega)]
  rintro rfl
  exact absurd hd (by decide)

/-- A difference times a weight, divided by no less than the weight, stays between 0 and the
difference. -/
theorem weighted_tdiv_le {w d p : Int} (hw : 0 ≤ w) (hwd : w ≤ d) (hp : 0 ≤ p) :
    0 ≤ (w * p).tdiv d ∧ (w * p).tdiv d ≤ p := by
  have hprod : 0 ≤ w * p := mul_nonneg hw hp
  have hle : w * p ≤ d * p := mul_le_mul_of_nonneg_right hwd hp
  rw [Int.tdiv_eq_ediv_of_nonneg hprod]
  refine ⟨Int.ediv_nonneg hprod (hw.trans hwd), ?_⟩
  rcases (hw.trans hwd).lt_or_eq with hd | rfl
  · exact Int.ediv_le_of_le_mul hd (by rwa [mul_comm p])
  · rwa [Int.ediv_zero]

theorem movedChannel_le (ha : a.toNat ≤ d.toNat) (hd : d.toNat ≤ 262144) (hc : c.toNat ≤ 4080)
    (hx : x.toNat ≤ 4080) : (c - (a * (c - x)).sdiv d).toNat ≤ 4080 := by
  have hmove := channelMove_toInt ha hd hc hx
  generalize (a * (c - x)).sdiv d = m at hmove ⊢
  have hbetween : 0 ≤ (c.toNat : Int) - m.toInt ∧ (c.toNat : Int) - m.toInt ≤ 4080 := by
    rw [hmove]
    rcases le_total x.toNat c.toNat with h | h
    · obtain ⟨hlow, hhigh⟩ := weighted_tdiv_le (w := a.toNat) (d := d.toNat)
        (p := c.toNat - x.toNat) (by omega) (by omega) (by omega)
      omega
    · obtain ⟨hlow, hhigh⟩ := weighted_tdiv_le (w := a.toNat) (d := d.toNat)
        (p := x.toNat - c.toNat) (by omega) (by omega) (by omega)
      rw [← neg_sub (x.toNat : Int), mul_neg, Int.neg_tdiv]
      omega
  have hresult : (c - m).toInt = (c.toNat : Int) - m.toInt := by
    rw [BitVec.toInt_sub, toInt_of_small (by omega)]
    exact Int.bmod_eq_of_le (by omega) (by omega)
  rw [BitVec.toInt_eq_toNat_cond] at hresult
  split at hresult <;> omega

/-! ## The network -/

/-- The three channels of a neuron are in 0..4080. -/
def Neuron.InRange (u : Neuron) : Prop :=
  u.r.toNat ≤ 4080 ∧ u.g.toNat ≤ 4080 ∧ u.b.toNat ≤ 4080

/-- So are those of a sample, 16 times a byte (41_quantizer.md R148). -/
def Sample.InRange (y : Sample) : Prop :=
  y.r.toNat ≤ 4080 ∧ y.g.toNat ≤ 4080 ∧ y.b.toNat ≤ 4080

theorem sampleChannel_le (v : Byte) : (v.setWidth 32 <<< 4 : I32).toNat ≤ 4080 := by
  have hv : (v.setWidth 32).toNat = v.toNat := BitVec.toNat_setWidth_of_le (by decide)
  rw [BitVec.toNat_shiftLeft, hv, Nat.shiftLeft_eq]
  omega

theorem sampleOf_inRange (p : RGB) : (sampleOf p).InRange :=
  ⟨sampleChannel_le p.r, sampleChannel_le p.g, sampleChannel_le p.b⟩

theorem Neuron.InRange.moveToward (hu : u.InRange) (hy : y.InRange) (ha : a.toNat ≤ d.toNat)
    (hd : d.toNat ≤ 262144) : (Machine.moveToward a d y u).InRange := by
  obtain ⟨hr, hg, hb⟩ := hu
  obtain ⟨hyr, hyg, hyb⟩ := hy
  exact ⟨movedChannel_le ha hd hr hyr, movedChannel_le ha hd hg hyg, movedChannel_le ha hd hb hyb⟩

/-- Every neuron of a network is in range. -/
def NetInRange (net : List Neuron) : Prop := ∀ u ∈ net, u.InRange

theorem initNetwork_inRange : NetInRange initNetwork := by
  intro u hu
  obtain ⟨k, hk, rfl⟩ := List.mem_map.1 hu
  have hlt : k < 256 := List.mem_range.1 hk
  rw [initNeuron_eq hlt]
  have hchannel := toNat_ofNat_of_le (n := 16 * k) (by omega)
  refine ⟨?_, ?_, ?_⟩ <;> (rw [hchannel]; omega)

/-- The competition moves no colour (41_quantizer.md R149). -/
theorem NetInRange.contest {net : List Neuron} (h : NetInRange net) (y : Sample) :
    NetInRange (contest y net).1 :=
  forall_mem_modify _ (fun _ hu => by
    obtain ⟨v, hv, rfl⟩ := List.mem_map.1 hu
    exact h v hv) fun _ hu => hu

theorem NetInRange.alterSingle {net : List Neuron} (h : NetInRange net) (hy : y.InRange)
    (ha : a.toNat ≤ 1024) (j : Int) : NetInRange (alterSingle a j y net) :=
  forall_mem_modify _ h fun _ hu => hu.moveToward hy ha (by decide)

theorem getD_le_of_forall {w : List I32} {b : Nat} (h : ∀ v ∈ w, v.toNat ≤ b) (m : Nat) :
    (w.getD m 0).toNat ≤ b := by
  rw [List.getD_eq_getElem?_getD]
  cases hm : w[m]? with
  | none => exact Nat.zero_le b
  | some v => exact h v (List.mem_of_getElem? hm)

theorem NetInRange.alterNeighLoop {lo hi : Int} (hy : y.InRange)
    (hw : ∀ v ∈ w, v.toNat ≤ 262144) (fuel : Nat) : ∀ (aHi aLo : Int) (m : Nat)
    (net : List Neuron), NetInRange net →
    NetInRange (alterNeighLoop w y lo hi fuel aHi aLo m net) := by
  induction fuel with
  | zero => exact fun _ _ _ _ h => h
  | succ fuel ih =>
    intro aHi aLo m net h
    have hmove : ∀ (i : Nat) (net : List Neuron), NetInRange net →
        NetInRange (net.modify i (moveToward (w.getD m 0) alphaRadBias y)) := fun i net h =>
      forall_mem_modify i h fun _ hu => hu.moveToward hy (getD_le_of_forall hw m) (by decide)
    unfold Machine.alterNeighLoop
    split
    · refine ih _ _ _ _ ?_
      split <;> split
      · exact hmove _ _ (hmove _ _ h)
      · exact hmove _ _ h
      · exact hmove _ _ h
      · exact h
    · exact h

theorem NetInRange.alterNeigh {net : List Neuron} (h : NetInRange net) (hy : y.InRange)
    (hw : ∀ v ∈ w, v.toNat ≤ 262144) (rad : I32) (j : Int) :
    NetInRange (alterNeigh w rad j y net) := alterNeighLoop hy hw _ _ _ _ _ h

/-! ## The parameters -/

/-- A word that decays by a part of itself does not grow. -/
theorem sub_sdiv_le {b : I32} (ha : a.toNat < 2 ^ 31) (hb : b.toNat < 2 ^ 31) :
    (a - a.sdiv b).toNat ≤ a.toNat := by
  have hdiv := sdiv_toNat_of_small ha hb
  have hle := Nat.div_le_self a.toNat b.toNat
  rw [BitVec.toNat_sub_of_le (by rw [BitVec.le_def]; omega)]
  exact Nat.sub_le ..

theorem radOf_le (h : radius.toNat ≤ 2048) : (radOf radius).toNat ≤ 32 := by
  have hshift := sshiftRight_toNat_of_small (a := radius) (by omega) 6
  unfold radOf radiusBiasShift
  dsimp only
  split
  · decide
  · omega

/-- A weight is at most alpha times 256 (41_quantizer.md R146). -/
theorem radWeight_le (halpha : alpha.toNat ≤ 1024) (hrad : rad.toNat ≤ 32) {k : Nat}
    (hk : k ≤ rad.toNat) : (radWeight alpha rad (BitVec.ofNat 32 k)).toNat ≤ 262144 := by
  have hkn : (BitVec.ofNat 32 k).toNat = k := toNat_ofNat_of_le (by omega)
  have hsquare : rad.toNat * rad.toNat ≤ 32 * 32 := Nat.mul_le_mul hrad hrad
  have hksquare : k * k ≤ rad.toNat * rad.toNat := Nat.mul_le_mul hk hk
  have hrr : (rad * rad).toNat = rad.toNat * rad.toNat := BitVec.toNat_mul_of_lt (by omega)
  have hkk : (BitVec.ofNat 32 k * BitVec.ofNat 32 k).toNat = k * k := by
    rw [BitVec.toNat_mul_of_lt (by rw [hkn]; omega), hkn]
  have hsub : (rad * rad - BitVec.ofNat 32 k * BitVec.ofNat 32 k).toNat =
      rad.toNat * rad.toNat - k * k := by
    rw [BitVec.toNat_sub_of_le (by rw [BitVec.le_def]; omega), hrr, hkk]
  have hbias : ((rad * rad - BitVec.ofNat 32 k * BitVec.ofNat 32 k) * radBias).toNat =
      (rad.toNat * rad.toNat - k * k) * 256 := by
    have hradBias : radBias.toNat = 256 := rfl
    rw [BitVec.toNat_mul_of_lt (by rw [hsub, hradBias]; omega), hsub, hradBias]
  have hquot := sdiv_toNat_of_small (a := (rad * rad - _ * _) * radBias) (b := rad * rad)
    (by rw [hbias]; omega) (by omega)
  have hle : (rad.toNat * rad.toNat - k * k) * 256 / (rad.toNat * rad.toNat) ≤ 256 :=
    Nat.div_le_of_le_mul (by omega)
  rw [hbias, hrr] at hquot
  have hweight := Nat.mul_le_mul halpha (hquot.trans_le hle)
  rw [radWeight, BitVec.toNat_mul_of_lt (by omega)]
  exact hweight

theorem setRadpower_le (halpha : alpha.toNat ≤ 1024) (hrad : rad.toNat ≤ 32)
    (hw : ∀ v ∈ w, v.toNat ≤ 262144) : ∀ v ∈ setRadpower alpha rad w, v.toNat ≤ 262144 := by
  have hint := toInt_of_small (a := rad) (by omega)
  intro v hv
  rcases List.mem_append.1 hv with hv | hv
  · obtain ⟨k, hk, rfl⟩ := List.mem_map.1 hv
    have hlt := List.mem_range.1 hk
    exact radWeight_le halpha hrad (by omega)
  · exact hw v (List.mem_of_mem_drop hv)

/-- The divisor of alpha's decay is no negative word, also for a Q of 0 (log entry 15). -/
theorem trainingStart_alphadec_lt (n : I32) (q : BitVec 16) :
    (trainingStart n (q.setWidth 32)).alphadec.toNat < 2 ^ 31 := by
  have hq : (q.setWidth 32).toNat = q.toNat := BitVec.toNat_setWidth_of_le (by decide)
  have hsamplefac : (trainingStart n (q.setWidth 32)).samplefac = 1 ∨
      (trainingStart n (q.setWidth 32)).samplefac = q.setWidth 32 := ite_eq_or_eq ..
  rw [trainingStart_alphadec]
  rcases hsamplefac with h | h <;> rw [h]
  · decide
  · rcases eq_or_ne q 0 with rfl | hne
    · decide
    · have hpos : q.toNat ≠ 0 := fun h => hne (BitVec.eq_of_toNat_eq h)
      rw [alphadec_of_samplefac (by omega) (by omega)]
      omega

/-! ## The training -/

/-- The invariant of the learning loop: the network is in range, and the weights of a move are no
larger than its divisor. -/
structure Training.InRange (t : Training) : Prop where
  net : NetInRange t.net
  alpha : t.alpha.toNat ≤ 1024
  alphadec : t.alphadec.toNat < 2 ^ 31
  radius : t.radius.toNat ≤ 2048
  radpower : ∀ v ∈ t.radpower, v.toNat ≤ 262144

theorem trainingStart_inRange (n : I32) (q : BitVec 16) :
    (trainingStart n (q.setWidth 32)).InRange where
  net := initNetwork_inRange
  alpha := le_rfl
  alphadec := trainingStart_alphadec_lt n q
  radius := le_rfl
  radpower := setRadpower_le le_rfl (radOf_le le_rfl) fun v hv => by
    rw [List.eq_of_mem_replicate hv]
    decide

theorem decay_alpha (t : Training) : (decay t).alpha = t.alpha - t.alpha.sdiv t.alphadec := rfl

theorem decay_radius (t : Training) :
    (decay t).radius = t.radius - t.radius.sdiv radiusDec := rfl

theorem Training.InRange.decay (h : t.InRange) : (decay t).InRange := by
  obtain ⟨hnet, halpha, halphadec, hradius, hradpower⟩ := h
  have halpha' : (Machine.decay t).alpha.toNat ≤ 1024 := by
    rw [decay_alpha]
    exact (sub_sdiv_le (by omega) halphadec).trans halpha
  have hradius' : (Machine.decay t).radius.toNat ≤ 2048 := by
    rw [decay_radius]
    exact (sub_sdiv_le (by omega) (by decide)).trans hradius
  refine ⟨?_, halpha', ?_, hradius', setRadpower_le halpha' (radOf_le hradius') hradpower⟩
  · rwa [decay_net]
  · rwa [decay_alphadec]

theorem Training.InRange.learnSample (h : t.InRange) (hy : y.InRange) :
    NetInRange (learnSample y t) := by
  have hmoved := (h.net.contest y).alterSingle hy h.alpha (Machine.contest y t.net).2
  unfold Machine.learnSample
  dsimp only
  split
  · exact hmoved.alterNeigh hy h.radpower _ _
  · exact hmoved

theorem Training.InRange.learnPass (h : t.InRange) (pix : Nat → RGB) (n : I32) :
    (learnPass pix n t).InRange := by
  have hadvance : (learnAdvance pix n t).InRange :=
    { h with net := h.learnSample (sampleOf_inRange _) }
  unfold Machine.learnPass learnSchedule
  split
  · exact hadvance.decay
  · exact hadvance

/-- Settles O27, by the invariant `Training.InRange` over the passes of the loop. -/
theorem trainedChannelsStayInRange : Obligations.TrainedChannelsStayInRange := fun pix n q =>
  (learn_of_invariant (trainingStart_inRange n q) fun _ h => h.learnPass pix n).net

end Sys2Proof.Machine
end

section
/-! Exchanging red and blue commutes with every part of the training (41_quantizer.md R156). -/

namespace Sys2Proof.Machine

/-! ## The exchange -/

def swapColour (c : RGB) : RGB := ⟨c.b, c.g, c.r⟩

def swapSample (x : Sample) : Sample := ⟨x.b, x.g, x.r⟩

def swapNeuron (u : Neuron) : Neuron := { u with r := u.b, b := u.r }

/-- The exchange in every neuron of a training state. -/
def swapTraining (t : Training) : Training := { t with net := t.net.map swapNeuron }

theorem sampleOf_swapColour (c : RGB) : sampleOf (swapColour c) = swapSample (sampleOf c) := rfl

theorem initNetwork_map_swapNeuron : initNetwork.map swapNeuron = initNetwork := List.map_map ..

/-! ## The competition and the moves -/

/-- The distance is a sum over the channels. -/
theorem neuronDist_swap (x : Sample) (u : Neuron) :
    neuronDist (swapSample x) (swapNeuron u) = neuronDist x u := by
  simp only [neuronDist, swapSample, swapNeuron]
  ac_rfl

theorem contestMinima_swap (x : Sample) (k : Nat) (u : Neuron) (c : Contest) :
    contestMinima (swapSample x) k (swapNeuron u) c = contestMinima x k u c := by
  unfold contestMinima
  rw [neuronDist_swap]
  rfl

theorem contestScan_swap (x : Sample) (net : List Neuron) : ∀ (k : Nat) (c : Contest),
    contestScan (swapSample x) k (net.map swapNeuron) c = contestScan x k net c := by
  induction net with
  | nil => exact fun _ _ => rfl
  | cons u us ih =>
    intro k c
    rw [List.map_cons, contestScan, contestMinima_swap, ih, contestScan]

/-- An update that treats red and blue alike commutes with the exchange. -/
theorem modify_map_swapNeuron {f f' : Neuron → Neuron}
    (h : ∀ u, f' (swapNeuron u) = swapNeuron (f u)) (net : List Neuron) (i : Nat) :
    (net.map swapNeuron).modify i f' = (net.modify i f).map swapNeuron := by
  refine List.ext_getElem? fun k => ?_
  simp only [List.getElem?_modify, List.getElem?_map, Option.map_eq_map, Option.map_map]
  congr 1
  funext u
  simp only [Function.comp_apply, apply_ite swapNeuron, h]

theorem contest_swap (x : Sample) (net : List Neuron) :
    contest (swapSample x) (net.map swapNeuron) =
      ((contest x net).1.map swapNeuron, (contest x net).2) := by
  have hdecay : (net.map swapNeuron).map contestDecay = (net.map contestDecay).map swapNeuron := by
    rw [List.map_map, List.map_map]
    rfl
  have hreward := modify_map_swapNeuron (f := contestReward) (f' := contestReward) fun _ => rfl
  simp only [contest, contestScan_swap, hdecay, hreward]

/-- A move is made in each channel by itself. -/
theorem moveToward_swap (a d : I32) (x : Sample) (u : Neuron) :
    moveToward a d (swapSample x) (swapNeuron u) = swapNeuron (moveToward a d x u) := rfl

theorem alterSingle_swap (alpha : I32) (j : Int) (x : Sample) (net : List Neuron) :
    alterSingle alpha j (swapSample x) (net.map swapNeuron) =
      (alterSingle alpha j x net).map swapNeuron :=
  modify_map_swapNeuron (moveToward_swap alpha initAlpha x) net j.toNat

theorem alterNeighLoop_swap (w : List I32) (x : Sample) (lo hi : Int) (fuel : Nat) :
    ∀ (aHi aLo : Int) (m : Nat) (net : List Neuron),
      alterNeighLoop w (swapSample x) lo hi fuel aHi aLo m (net.map swapNeuron) =
        (alterNeighLoop w x lo hi fuel aHi aLo m net).map swapNeuron := by
  induction fuel with
  | zero => exact fun _ _ _ _ => rfl
  | succ fuel ih =>
    intro aHi aLo m net
    simp only [alterNeighLoop, modify_map_swapNeuron (moveToward_swap (w.getD m 0) alphaRadBias x),
      ← apply_ite (List.map swapNeuron), ih]

theorem alterNeigh_swap (w : List I32) (rad : I32) (j : Int) (x : Sample) (net : List Neuron) :
    alterNeigh w rad j (swapSample x) (net.map swapNeuron) =
      (alterNeigh w rad j x net).map swapNeuron := alterNeighLoop_swap ..

/-! ## The training -/

theorem learnSample_swap (x : Sample) (t : Training) :
    learnSample (swapSample x) (swapTraining t) = (learnSample x t).map swapNeuron := by
  simp only [learnSample, swapTraining, contest_swap, alterSingle_swap, alterNeigh_swap,
    apply_ite (List.map swapNeuron)]

theorem decay_swap (t : Training) : decay (swapTraining t) = swapTraining (decay t) := by
  simp only [decay, swapTraining]

theorem learnSchedule_swap (t : Training) :
    learnSchedule (swapTraining t) = swapTraining (learnSchedule t) := by
  by_cases h : t.i.srem t.delta = 0
  · rw [learnSchedule_of_due h, learnSchedule_of_due (t := swapTraining t) h, decay_swap]
  · rw [learnSchedule_of_not_due h, learnSchedule_of_not_due (t := swapTraining t) h]

/-- A pass on the exchanged pixels is the exchanged pass. -/
theorem learnPass_swap (pix : Nat → RGB) (n : I32) (t : Training) :
    learnPass (fun i => swapColour (pix i)) n (swapTraining t) =
      swapTraining (learnPass pix n t) := by
  have hadvance : learnAdvance (fun i => swapColour (pix i)) n (swapTraining t) =
      swapTraining (learnAdvance pix n t) := by
    unfold learnAdvance
    rw [sampleOf_swapColour, learnSample_swap]
    rfl
  rw [learnPass, hadvance, learnSchedule_swap]
  rfl

theorem trainingStart_swap (n q : I32) : swapTraining (trainingStart n q) = trainingStart n q :=
  congrArg (fun net => { trainingStart n q with net := net }) initNetwork_map_swapNeuron

theorem learn_swap (pix : Nat → RGB) (n q : I32) :
    learn (fun i => swapColour (pix i)) n q = swapTraining (learn pix n q) := by
  have hpasses : Function.Semiconj swapTraining (learnPass pix n)
      (learnPass (fun i => swapColour (pix i)) n) := fun t => (learnPass_swap pix n t).symm
  rw [learn_eq_iterate, learn_eq_iterate, (hpasses.iterate_right _).eq, trainingStart_swap]

/-- Settles O28: training on exchanged pixels is the exchanged training, and exchanging twice is
exchanging nothing. -/
theorem trainingCommutesWithChannelSwap : Obligations.TrainingCommutesWithChannelSwap := by
  intro pix n q
  refine (congrArg (fun t => (paletteOf t).map swapColour) (learn_swap pix n q)).trans ?_
  rw [paletteOf, paletteOf, swapTraining, List.map_map, List.map_map]
  rfl

end Sys2Proof.Machine
end

section
/-! The learning reads pixels at positions below N only (41_quantizer.md R148, R155). -/

namespace Sys2Proof.Machine

variable {pix pix' : Nat → RGB} {n : I32} {t : Training}

/-- The position of the next sample is inside the frame, and the stride is no longer than it. -/
structure Training.InFrame (n : I32) (t : Training) : Prop where
  pos : t.pos.toNat < n.toNat
  step : t.step.toNat ≤ n.toNat

/-- The stride is 1 below 503 pixels, and else at most 503 (41_quantizer.md R147). -/
theorem trainingStart_inFrame {n : Nat} (hpos : 1 ≤ n) (hmax : n ≤ 2 ^ 22) (q : I32) :
    (trainingStart (BitVec.ofNat 32 n) q).InFrame (BitVec.ofNat 32 n) := by
  have hn := toNat_ofNat_of_le hmax
  refine ⟨?_, ?_⟩
  · show 0 < (BitVec.ofNat 32 n).toNat
    omega
  · show (sampleStep (BitVec.ofNat 32 n)).toNat ≤ _
    rw [sampleStep_toNat hmax, hn]
    by_cases hsmall : 3 * n < 1509
    · rwa [if_pos hsmall]
    · have hn503 : 503 ≤ n := by omega
      rw [if_neg hsmall]
      split_ifs <;> exact le_trans (by decide) hn503

/-- A position that reaches N wraps to the start of the frame (41_quantizer.md R148). -/
theorem Training.InFrame.nextPos (h : t.InFrame n) (hn : n.toNat ≤ 2 ^ 22) :
    (nextPos n t).toNat < n.toNat := by
  obtain ⟨hpos, hstep⟩ := h
  have hsum : (t.pos + t.step).toNat = t.pos.toNat + t.step.toNat :=
    BitVec.toNat_add_of_lt (by omega)
  have hreach := sle_iff_of_small (a := n) (b := t.pos + t.step) (by omega) (by omega)
  unfold Machine.nextPos
  dsimp only
  split
  · next h =>
    rw [BitVec.toNat_sub_of_le (BitVec.le_def.2 (hreach.1 h))]
    omega
  · next h =>
    exact Nat.lt_of_not_le fun hle => h (hreach.2 hle)

theorem Training.InFrame.learnPass (h : t.InFrame n) (hn : n.toNat ≤ 2 ^ 22) (pix : Nat → RGB) :
    (learnPass pix n t).InFrame n where
  pos := by
    rw [learnPass_pos]
    exact h.nextPos hn
  step := (congrArg BitVec.toNat (learnSchedule_step _)).trans_le h.step

theorem learnPass_congr (h : ∀ i, i < n.toNat → pix' i = pix i) (ht : t.InFrame n) :
    learnPass pix' n t = learnPass pix n t := by
  unfold learnPass learnAdvance
  rw [h _ ht.pos]

/-- On pixels that agree in the frame the passes agree, and the position stays in the frame. -/
theorem learnPass_iterate_congr (h : ∀ i, i < n.toNat → pix' i = pix i) (hn : n.toNat ≤ 2 ^ 22)
    (ht : t.InFrame n) (k : Nat) : (learnPass pix' n)^[k] t = (learnPass pix n)^[k] t ∧
      ((learnPass pix n)^[k] t).InFrame n := by
  induction k with
  | zero =>
    rw [Function.iterate_zero, Function.iterate_zero]
    exact ⟨rfl, ht⟩
  | succ k ih =>
    obtain ⟨heq, hframe⟩ := ih
    rw [Function.iterate_succ_apply', Function.iterate_succ_apply', heq]
    exact ⟨learnPass_congr h hframe, hframe.learnPass hn pix⟩

theorem learn_congr {n : Nat} (hpos : 1 ≤ n) (hmax : n ≤ 2 ^ 22)
    (h : ∀ i, i < n → pix' i = pix i) (q : I32) :
    learn pix' (BitVec.ofNat 32 n) q = learn pix (BitVec.ofNat 32 n) q := by
  have hn := toNat_ofNat_of_le hmax
  rw [learn_eq_iterate, learn_eq_iterate]
  exact (learnPass_iterate_congr (fun i hi => h i (hn ▸ hi)) (hn.trans_le hmax)
    (trainingStart_inFrame hpos hmax q) _).1

/-- Settles O29: the two learnings are the same, and the palette is what they freeze. -/
theorem trainDependsOnlyOnItsFrame : Obligations.TrainDependsOnlyOnItsFrame := by
  intro s s' hb hb' hn hn' hpos hmax hpixels hquality hpix
  have htrained : trainedState s' = trainedState s := by
    rw [trainedState, hpixels, hquality]
    exact learn_congr hpos hmax hpix _
  refine ⟨_, _, exec_train_of_accepted hb hn, exec_train_of_accepted hb' hn',
    (trainPhase_palValid _ _).trans (trainPhase_palValid _ _).symm,
    (trainPhase_used _ _).trans (trainPhase_used _ _).symm, fun k hk => ?_⟩
  obtain ⟨u, hu⟩ := exists_trainedState_neuron s hk
  have hu' : (trainedState s').net[k]? = some u := by rw [htrained, hu]
  rw [trainPhase_palEntry s hk hu, trainPhase_palEntry s' hk hu']

end Sys2Proof.Machine
end

section
/-! The two distances of the mapper as the rules write them (42_mapper.md R181, R185). -/

namespace Sys2Proof.Machine

theorem absDiff_cast (a b : Byte) : (absDiff a b : Int) = |(a.toNat : Int) - b.toNat| :=
  Int.natCast_natAbs _

theorem absDiff_le (a b : Byte) : absDiff a b ≤ 255 := by
  have ha := a.isLt
  have hb := b.isLt
  unfold absDiff
  omega

theorem absDiff_sq_cast (a b : Byte) :
    ((absDiff a b ^ 2 : Nat) : Int) = ((a.toNat : Int) - b.toNat) ^ 2 := by
  rw [Nat.cast_pow, absDiff_cast, sq_abs]

theorem absDiff_sq_le (a b : Byte) : absDiff a b ^ 2 ≤ 65025 :=
  Nat.pow_le_pow_left (absDiff_le a b) 2

theorem dist1_le (p e : RGB) : dist1 p e ≤ 765 := by
  have hr := absDiff_le p.r e.r
  have hg := absDiff_le p.g e.g
  have hb := absDiff_le p.b e.b
  unfold dist1
  omega

theorem dist2_le (t e : RGB) : dist2 t e ≤ 195075 := by
  have hr := absDiff_sq_le t.r e.r
  have hg := absDiff_sq_le t.g e.g
  have hb := absDiff_sq_le t.b e.b
  unfold dist2
  omega

/-- Settles O35, channel by channel. -/
theorem distancesAreExact : Obligations.DistancesAreExact := by
  refine fun p e => ⟨?_, dist1_le p e, ?_, dist2_le p e⟩
  · rw [dist1, Nat.cast_add, Nat.cast_add, absDiff_cast, absDiff_cast, absDiff_cast]
  · rw [dist2, Nat.cast_add, Nat.cast_add, absDiff_sq_cast, absDiff_sq_cast, absDiff_sq_cast]

end Sys2Proof.Machine
end

section
/-! The searches of MAP and TRANS_FIND answer the lowest entry of least distance (42_mapper.md R182,
R184): each loop keeps the lowest least of the entries it has passed. -/

namespace Sys2Proof.Machine

variable {eligible : Nat → Prop} {d : Nat → Nat} {n best dmin : Nat}

/-- Of the eligible entries 0 to n - 1, `best` is the lowest of those at the least distance. -/
def IsLowestLeast (eligible : Nat → Prop) (d : Nat → Nat) (n best : Nat) : Prop :=
  eligible best ∧ best < n ∧
    ∀ k, k < n → eligible k → d best ≤ d k ∧ (k < best → d best < d k)

/-- The first eligible entry is the lowest least so far. -/
theorem IsLowestLeast.first (hnone : ∀ k, k < n → ¬ eligible k) (hn : eligible n) :
    IsLowestLeast eligible d (n + 1) n := by
  refine ⟨hn, n.lt_succ_self, fun k hk hek => ?_⟩
  obtain hk | rfl := Nat.lt_succ_iff_lt_or_eq.1 hk
  · exact absurd hek (hnone k hk)
  · exact ⟨le_rfl, fun h => absurd h (lt_irrefl k)⟩

/-- A nearer eligible entry takes over: every entry before it is strictly farther. -/
theorem IsLowestLeast.replace (h : IsLowestLeast eligible d n best) (hn : eligible n)
    (hlt : d n < d best) : IsLowestLeast eligible d (n + 1) n := by
  obtain ⟨-, -, hmin⟩ := h
  refine ⟨hn, n.lt_succ_self, fun k hk hek => ?_⟩
  obtain hk | rfl := Nat.lt_succ_iff_lt_or_eq.1 hk
  · obtain ⟨hle, -⟩ := hmin k hk hek
    omega
  · exact ⟨le_rfl, fun h => absurd h (lt_irrefl k)⟩

/-- An entry that is not eligible or not strictly nearer leaves the lowest least as it is. -/
theorem IsLowestLeast.keep (h : IsLowestLeast eligible d n best)
    (hn : ¬ (eligible n ∧ d n < d best)) : IsLowestLeast eligible d (n + 1) best := by
  obtain ⟨he, hbest, hmin⟩ := h
  refine ⟨he, hbest.trans n.lt_succ_self, fun k hk hek => ?_⟩
  obtain hk | rfl := Nat.lt_succ_iff_lt_or_eq.1 hk
  · exact hmin k hk hek
  · have hle : ¬ d k < d best := fun hlt => hn ⟨hek, hlt⟩
    omega

/-! ## MAP -/

/-- The loop of `nearest` over the entries n to n + c - 1 of a palette. -/
theorem nearestLoop_isLowestLeast (p : RGB) (pal : Nat → RGB) (c : Nat) : ∀ {n best : Nat},
    IsLowestLeast (fun _ => True) (fun e => dist1 p (pal e)) n best →
    IsLowestLeast (fun _ => True) (fun e => dist1 p (pal e)) (n + c)
      (nearestLoop p n best (dist1 p (pal best)) ((List.range' n c).map pal)) := by
  induction c with
  | zero => exact fun h => h
  | succ c ih =>
    intro n best h
    rw [List.range'_succ, List.map_cons, nearestLoop, Nat.add_comm c 1, ← Nat.add_assoc]
    split
    · next hlt => exact ih (h.replace trivial hlt)
    · next hge => exact ih (h.keep fun hn => hge hn.2)

/-- MAP's index is the lowest at the least L1 distance over the whole palette. -/
theorem nearest_isLowestLeast (p : RGB) (m : Memory) :
    IsLowestLeast (fun _ => True) (fun e => dist1 p (m.palEntry e)) 256 (nearest p m.palette) := by
  have hpal : m.palette = m.palEntry 0 :: (List.range' 1 255).map m.palEntry := by
    rw [Memory.palette, List.range_eq_range', List.range'_succ, List.map_cons]
  rw [hpal]
  exact nearestLoop_isLowestLeast p m.palEntry 255
    (.first (fun k hk => absurd hk k.not_lt_zero) trivial)

/-! ## TRANS_FIND -/

/-- What the loop of TRANS_FIND holds before entry n: its start values while no entry was eligible,
and then the lowest least with its distance. -/
def IsSearchState (eligible : Nat → Prop) (d : Nat → Nat) (n best dmin : Nat) : Prop :=
  (best = 0 ∧ dmin = 2 ^ 24 ∧ ∀ k, k < n → ¬ eligible k) ∨
  (dmin = d best ∧ IsLowestLeast eligible d n best)

/-- An entry that the loop takes. -/
theorem IsSearchState.take (h : IsSearchState eligible d n best dmin) (hn : eligible n)
    (hlt : d n < dmin) : IsSearchState eligible d (n + 1) n (d n) := by
  refine .inr ⟨rfl, ?_⟩
  rcases h with ⟨-, -, hnone⟩ | ⟨rfl, hleast⟩
  · exact .first hnone hn
  · exact hleast.replace hn hlt

/-- An entry that the loop passes over. Its first eligible entry is never one, since the start of
dmin is above every distance (42_mapper.md R185). -/
theorem IsSearchState.pass (h : IsSearchState eligible d n best dmin) (hmax : d n < 2 ^ 24)
    (hn : ¬ (eligible n ∧ d n < dmin)) : IsSearchState eligible d (n + 1) best dmin := by
  rcases h with ⟨rfl, rfl, hnone⟩ | ⟨rfl, hleast⟩
  · refine .inl ⟨rfl, rfl, fun k hk hek => ?_⟩
    obtain hk | rfl := Nat.lt_succ_iff_lt_or_eq.1 hk
    · exact hnone k hk hek
    · exact hn ⟨hek, hmax⟩
  · exact .inr ⟨rfl, hleast.keep hn⟩

/-- The loop of TRANS_FIND over the entries n to n + c - 1 of a palette. -/
theorem transFindLoop_isSearchState (t : RGB) (used : BitVec 256) (pal : Nat → RGB) (c : Nat) :
    ∀ {n best dmin : Nat},
    IsSearchState (fun k => used.getLsbD k = true) (fun e => dist2 t (pal e)) n best dmin →
    ∃ dmin', IsSearchState (fun k => used.getLsbD k = true) (fun e => dist2 t (pal e)) (n + c)
      (transFindLoop t used n best dmin ((List.range' n c).map pal)) dmin' := by
  induction c with
  | zero => exact fun h => ⟨_, h⟩
  | succ c ih =>
    intro n best dmin h
    rw [List.range'_succ, List.map_cons, transFindLoop, Nat.add_comm c 1, ← Nat.add_assoc]
    split
    · next hn => exact ih (h.take hn.1 hn.2)
    · next hn => exact ih (h.pass ((dist2_le t (pal n)).trans_lt (by decide)) hn)

/-- TRANS_FIND's search ends with 0 when no entry is used, and else with the lowest used entry at
the least squared distance. -/
theorem transFind_spec (t : RGB) (used : BitVec 256) (m : Memory) :
    (transFind t used m.palette = 0 ∧ ∀ k, k < 256 → ¬ used.getLsbD k = true) ∨
    IsLowestLeast (fun k => used.getLsbD k = true) (fun e => dist2 t (m.palEntry e)) 256
      (transFind t used m.palette) := by
  rw [transFind, Memory.palette, List.range_eq_range']
  obtain ⟨_, ⟨hzero, -, hnone⟩ | ⟨-, hleast⟩⟩ := transFindLoop_isSearchState t used m.palEntry 256
    (n := 0) (best := 0) (.inl ⟨rfl, rfl, fun k hk => absurd hk k.not_lt_zero⟩)
  · exact .inl ⟨hzero, hnone⟩
  · exact .inr hleast

end Sys2Proof.Machine
end

section
/-! MAP writes the nearest index of every pixel and marks the assigned entries (42_mapper.md R180 to
R183), and TRANS_FIND writes the nearest used entry (R184 to R186). -/

namespace Sys2Proof.Machine

variable {s : State}

/-! ## MAP -/

/-- MAP with N within the capacity and a palette is its body. -/
theorem exec_map_of_accepted (hb : s.busy = false) (hn : pixels s ≤ s.params.maxPixels)
    (hp : s.palValid = true) : exec .map s = .next (mapPhase s.snapshot (s.accept .map)) :=
  exec_of_accepted hb (preconditionError_eq_none_iff.2
    ⟨fun _ => by rwa [pixCount_toNat_eq_pixels], fun _ => hp⟩)

/-- IDX[i] after MAP. -/
theorem mapPhase_index (c : Snapshot) (s : State) {i : Nat} (hi : i < c.n.toNat) :
    (mapPhase c s).mem.index i = mappedIndex s.mem i := by
  have hin : idxAddr 0 ≤ idxAddr i ∧ idxAddr i < idxAddr 0 + c.n.toNat := by
    unfold idxAddr
    omega
  have hoff : idxAddr i - idxAddr 0 = i := by
    unfold idxAddr
    omega
  rw [mapPhase_mem, Memory.index, Memory.read_writeBytes, mappedIndices_length, if_pos hin, hoff]
  simp [mappedIndices, hi]

/-- USED after MAP is the set of the indices it wrote (10_state.md R49). -/
theorem mapPhase_used_getLsbD (c : Snapshot) (s : State) (k : Nat) :
    (mapPhase c s).used.getLsbD k = true ↔
      ∃ i, i < c.n.toNat ∧ ((mapPhase c s).mem.index i).toNat = k := by
  rw [mapPhase_used, usedOf_getLsbD]
  simp only [mappedIndices, List.mem_map, List.mem_range, exists_exists_and_eq_and]
  exact exists_congr fun i => and_congr_right fun hi => by rw [mapPhase_index c s hi]

/-- Settles O32: the body's fields are its own rules, and each index is found by the search. -/
theorem mapAssignsNearestIndices : Obligations.MapAssignsNearestIndices := by
  intro s hb hn hp
  have hcount : s.snapshot.n.toNat = pixels s := pixCount_toNat_eq_pixels s
  refine ⟨_, exec_map_of_accepted hb hn hp, ?_, fun i hi k hk => ?_, ?_, ?_,
    bodyOf_sameConfig (i := .map) (by decide) _ _, bodyOf_samePort .map _ _,
    ⟨mapPhase_outValid _ _, mapPhase_outLen _ _⟩, mapPhase_palValid _ _, mapPhase_transIndex _ _,
    mapPhase_free _ _⟩
  · exact ⟨mapPhase_done _ _, mapPhase_err _ _, mapPhase_errCode _ _, mapPhase_errInfo _ _,
      mapPhase_curOp _ _, _, mapPhase_running _ _, rfl, rfl⟩
  · obtain ⟨-, -, hmin⟩ := nearest_isLowestLeast (s.mem.pixel i) s.mem
    rw [mapPhase_index _ _ (hcount ▸ hi), State.accept_mem, mappedIndex_toNat]
    exact hmin k hk trivial
  · exact hcount ▸ mapPhase_used_getLsbD _ _
  · exact hcount ▸ mapPhase_memSameBut s.snapshot (s.accept .map)

/-! ## The number of marked entries (42_mapper.md R183) -/

/-- The positions of the set bits of a used-entries set. -/
def markedEntries (used : BitVec 256) : List Nat := (List.range 256).filter fun k => used.getLsbD k

theorem mem_markedEntries {used : BitVec 256} {k : Nat} :
    k ∈ markedEntries used ↔ used.getLsbD k = true := by
  rw [markedEntries, List.mem_filter, List.mem_range]
  exact ⟨And.right, fun h => ⟨BitVec.lt_of_getLsbD h, h⟩⟩

theorem markedEntries_length_le (used : BitVec 256) : (markedEntries used).length ≤ 256 :=
  (List.length_filter_le _ _).trans_eq List.length_range

/-- Entries that n values cover are at most n. -/
theorem markedEntries_length_le_of_covered {used : BitVec 256} {n : Nat} {f : Nat → Nat}
    (h : ∀ k, used.getLsbD k = true → ∃ i, i < n ∧ f i = k) : (markedEntries used).length ≤ n := by
  have hnodup : (markedEntries used).Nodup := List.nodup_range.filter _
  have hsubset : markedEntries used ⊆ (List.range n).map f := fun k hk => by
    obtain ⟨i, hi, rfl⟩ := h k (mem_markedEntries.1 hk)
    exact List.mem_map_of_mem (List.mem_range.2 hi)
  simpa using (List.subperm_of_subset hnodup hsubset).length_le

/-- Settles O33: the marked entries are the indices of the N pixels, that of pixel 0 among them. -/
theorem mapMarksAtMostOneEntryPerPixel : Obligations.MapMarksAtMostOneEntryPerPixel := by
  intro s hb hpos hn hp
  obtain ⟨t, hexec, -, -, hused, -⟩ := mapAssignsNearestIndices s hb hn hp
  have hmarked : (t.mem.index 0).toNat ∈ markedEntries t.used :=
    mem_markedEntries.2 ((hused _).2 ⟨0, hpos, rfl⟩)
  exact ⟨t, hexec, List.length_pos_of_mem hmarked,
    le_min (markedEntries_length_le_of_covered fun k => (hused k).1) (markedEntries_length_le _)⟩

/-! ## TRANS_FIND -/

/-- TRANS_FIND with a palette is its body, whatever N is. -/
theorem exec_transFind_of_accepted (hb : s.busy = false) (hp : s.palValid = true) :
    exec .transFind s = .next (transFindPhase s.snapshot (s.accept .transFind)) :=
  exec_of_accepted hb (preconditionError_eq_none_iff.2
    ⟨fun h => absurd h (by decide), fun _ => hp⟩)

/-- TRANS_INDEX after TRANS_FIND. -/
theorem transFindPhase_transIndex_toNat (c : Snapshot) (s : State) :
    (transFindPhase c s).transIndex.toNat = transFind c.t s.used s.mem.palette := by
  have h := transFind_lt c.t s.used (pal := s.mem.palette) (by simp)
  rw [Memory.palette_length] at h
  rw [transFindPhase_transIndex, BitVec.toNat_ofNat]
  exact Nat.mod_eq_of_lt h

/-- Settles O34, by the two ends of the search: no entry is used, or the lowest least is found. -/
theorem transFindPicksNearestUsedEntry : Obligations.TransFindPicksNearestUsedEntry := by
  intro s hb hp
  refine ⟨_, exec_transFind_of_accepted hb hp, ?_, fun hnone => ?_, fun k hk => ?_, fun _ => rfl,
    bodyOf_sameConfig (i := .transFind) (by decide) _ _, bodyOf_samePort .transFind _ _,
    ⟨transFindPhase_outValid _ _, transFindPhase_outLen _ _⟩, transFindPhase_palValid _ _,
    transFindPhase_used _ _, transFindPhase_free _ _⟩
  · exact ⟨transFindPhase_done _ _, transFindPhase_err _ _, transFindPhase_errCode _ _,
      transFindPhase_errInfo _ _, transFindPhase_curOp _ _, _, transFindPhase_running _ _, rfl, rfl⟩
  · refine BitVec.eq_of_toNat_eq ((transFindPhase_transIndex_toNat _ _).trans ?_)
    rcases transFind_spec s.transRgb s.used s.mem with ⟨hzero, -⟩ | ⟨hused, -⟩
    · exact hzero
    · exact absurd hused (by simp [hnone])
  · have hk256 : k < 256 := BitVec.lt_of_getLsbD hk
    rw [transFindPhase_transIndex_toNat]
    rcases transFind_spec s.transRgb s.used s.mem with ⟨-, hnone⟩ | ⟨hused, -, hmin⟩
    · exact absurd hk (hnone k hk256)
    · exact ⟨hused, hmin k hk256 hk⟩

end Sys2Proof.Machine
end

section
/-! The conventional decoder on the framed bits of a code sequence (43_lzw.md R218): the sub-blocks
give the data back, the bytes give the bits back, and a code at its width is read as that code. -/

namespace Sys2Proof.Machine

variable {m w j code : Nat} {table : List (List Nat)} {last new out : List Nat}
  {bits rest : List Bool}

/-! ## Sub-blocks and bytes (30_encoding.md R96, R97) -/

/-- The sub-blocks of `subBlocks` and the terminator behind them gather to the data. -/
theorem gatherBlocks_subBlocks (n : Nat) : ∀ {d : List Byte}, d.length ≤ n →
    ∀ {fuel : Nat}, (subBlocks n d).length < fuel →
      gatherBlocks fuel (subBlocks n d ++ [0]) = some d := by
  induction n with
  | zero =>
    intro d hd fuel hfuel
    obtain rfl := List.length_eq_zero_iff.1 (Nat.le_zero.1 hd)
    obtain ⟨fuel, rfl⟩ := Nat.exists_eq_succ_of_ne_zero (Nat.ne_zero_of_lt hfuel)
    rfl
  | succ n ih =>
    intro d hd fuel hfuel
    obtain ⟨fuel, rfl⟩ := Nat.exists_eq_succ_of_ne_zero (Nat.ne_zero_of_lt hfuel)
    rw [subBlocks] at hfuel ⊢
    by_cases hnil : d = []
    · rw [if_pos hnil, hnil]
      rfl
    · have hpos : 0 < d.length := List.length_pos_iff.2 hnil
      have htake : (d.take 254).length = min 254 d.length := List.length_take
      have hlen : (BitVec.ofNat 8 (d.take 254).length).toNat = (d.take 254).length :=
        Nat.mod_eq_of_lt (by omega)
      have hne : BitVec.ofNat 8 (d.take 254).length ≠ 0 := fun h => by
        rw [h] at hlen
        have hzero : (0 : Byte).toNat = 0 := rfl
        omega
      rw [if_neg hnil, List.length_append, List.length_cons] at hfuel
      have hrest := ih (d := d.drop 254) (by rw [List.length_drop]; omega) (fuel := fuel) (by omega)
      rw [if_neg hnil, List.cons_append, List.cons_append, List.append_assoc, gatherBlocks,
        if_neg hne, hlen, List.take_left, List.drop_left, hrest,
        if_neg (by rw [List.length_append]; omega), Option.map_some, List.take_append_drop]

/-- The byte of fewer than eight bits starts with those bits. -/
theorem exists_byteBits_eq_append (h : bits.length < 8) :
    ∃ pad, byteBits (BitVec.ofNat 8 (bitsValue bits)) = bits ++ pad := by
  have hzeros : ∀ k, bitsValue (List.replicate k false) = 0 := fun k => by
    induction k with
    | zero => rfl
    | succ k ih => rw [List.replicate_succ, bitsValue, ih]; rfl
  have hlen : (bits ++ List.replicate (8 - bits.length) false).length = 8 := by
    rw [List.length_append, List.length_replicate]
    omega
  have hbyte := byteBits_ofNat_bitsValue hlen
  rw [bitsValue_append, hzeros, Nat.zero_mul, Nat.add_zero] at hbyte
  exact ⟨_, hbyte⟩

/-- The packed bytes hold the bits, with a padding of the last byte behind them. -/
theorem exists_flatMap_byteBits_packBits (bits : List Bool) :
    ∃ pad, (packBits bits).flatMap byteBits = bits ++ pad := by
  induction hn : bits.length using Nat.strong_induction_on generalizing bits with
  | _ n ih =>
    by_cases hshort : bits.length < 8
    · rw [packBits_of_short hshort, lastByte]
      split
      · rw [List.flatMap_singleton]
        exact exists_byteBits_eq_append hshort
      · next hzero =>
        obtain rfl := List.length_eq_zero_iff.1 (Nat.eq_zero_of_not_pos hzero)
        exact ⟨[], rfl⟩
    · have hbyte := byteBits_ofNat_bitsValue (List.length_take_of_le (Nat.le_of_not_lt hshort))
      obtain ⟨pad, hpad⟩ := ih (bits.drop 8).length (by rw [List.length_drop]; omega) _ rfl
      refine ⟨pad, ?_⟩
      rw [← List.take_append_drop 8 bits, ← hbyte, packBits_byteBits_append, List.flatMap_cons,
        hpad, List.append_assoc, hbyte]

/-! ## Reading one code (30_encoding.md R98) -/

/-- From the given decoder state on, the bits decode to the indices `out`. Every code takes a bit at
least, so a bound on the codes above the number of bits is never met. -/
def ReadsAs (m : Nat) (bits : List Bool) (w j : Nat) (table : List (List Nat))
    (last out : List Nat) : Prop :=
  ∀ fuel, bits.length < fuel → readCodes m fuel bits w j table last = some out

/-- The framed bits decode to what the decoder reads from the bits, padded or not. -/
theorem gifDecode_framed (hm : m ≤ 8) (h : ∀ pad, ReadsAs m (bits ++ pad) (m + 1) 0 [] [] out) :
    gifDecode (framed m bits) = some out := by
  have hsize : (BitVec.ofNat 8 m).toNat = m := Nat.mod_eq_of_lt (by omega)
  have hgather := gatherBlocks_subBlocks _ (le_refl (packBits bits).length)
    (fuel := (subBlocks (packBits bits).length (packBits bits) ++ [0]).length + 1)
    (by rw [List.length_append]; omega)
  obtain ⟨pad, hpad⟩ := exists_flatMap_byteBits_packBits bits
  simp only [framed, gifDecode, hgather, hsize, hpad]
  exact h pad _ (Nat.lt_succ_self _)

theorem readCodes_codeBits_append (hfit : code < 2 ^ w) (fuel : Nat) :
    readCodes m (fuel + 1) (codeBits code w ++ rest) w j table last =
      if code = clearCode m then readCodes m fuel rest (m + 1) 1 [] []
      else if code = eoiCode m then some []
      else (codeString m table last code).bind fun new =>
        (readCodes m fuel rest (nextWidth m w j) (j + 1) (growTable m table last new) new).map
          (new ++ ·) := by
  have hlen : (codeBits code w).length = w := codeBits_length code w
  have hroom : ¬ (codeBits code w ++ rest).length < w := by
    rw [List.length_append]
    omega
  rw [readCodes, if_neg hroom, List.take_left' hlen, List.drop_left' hlen,
    bitsValue_codeBits hfit]
  dsimp only
  cases codeString m table last code <;> rfl

/-- The bits behind a code are shorter by its width, which is not 0. -/
theorem exists_fuel_of_fitsWidth (hfit : FitsWidth m (code, w)) {fuel : Nat}
    (hfuel : (codeBits code w ++ rest).length < fuel) :
    ∃ fuel', fuel = fuel' + 1 ∧ rest.length < fuel' := by
  obtain ⟨-, hwidth, -⟩ := hfit
  rw [List.length_append, codeBits_length] at hfuel
  dsimp only at hwidth
  exact ⟨fuel - 1, by omega, by omega⟩

/-- A CLEAR resets the width, the number and the table. -/
theorem ReadsAs.clear (h : ReadsAs m rest (m + 1) 1 [] [] out)
    (hfit : FitsWidth m (clearCode m, w)) :
    ReadsAs m (codeBits (clearCode m) w ++ rest) w j table last out := by
  intro fuel hfuel
  obtain ⟨fuel, rfl, hrest⟩ := exists_fuel_of_fitsWidth hfit hfuel
  rw [readCodes_codeBits_append hfit.1, if_pos rfl]
  exact h fuel hrest

/-- EOI ends the decoding, whatever bits stand behind it. -/
theorem ReadsAs.eoi (rest : List Bool) (hfit : FitsWidth m (eoiCode m, w)) :
    ReadsAs m (codeBits (eoiCode m) w ++ rest) w j table last [] := by
  intro fuel hfuel
  obtain ⟨fuel, rfl, -⟩ := exists_fuel_of_fitsWidth hfit hfuel
  rw [readCodes_codeBits_append hfit.1, if_neg (Coder.clearCode_ne_eoiCode m).symm, if_pos rfl]

/-- A data code gives its string and extends the table by the string before it. -/
theorem ReadsAs.data
    (h : ReadsAs m rest (nextWidth m w j) (j + 1) (growTable m table last new) new out)
    (hfit : FitsWidth m (code, w)) (hclear : code ≠ clearCode m) (heoi : code ≠ eoiCode m)
    (hstring : codeString m table last code = some new) :
    ReadsAs m (codeBits code w ++ rest) w j table last (new ++ out) := by
  intro fuel hfuel
  obtain ⟨fuel, rfl, hrest⟩ := exists_fuel_of_fitsWidth hfit hfuel
  rw [readCodes_codeBits_append hfit.1, if_neg hclear, if_neg heoi, hstring,
    Option.bind_some, h fuel hrest, Option.map_some]

end Sys2Proof.Machine
end

section
/-! Decoding the stream gives the indices back (43_lzw.md R218). The decoder's table is one entry
behind the coder's dictionary: the entry the coder made last is the decoder's last string with the
first index of the string that comes next. So the table the decoder will have after that string is
what the coder's codes mean. -/

namespace Sys2Proof.Machine

variable {m w j free ent code x : Nat} {dict : List ((Nat × Nat) × Nat)} {xs : List Nat}
  {table strings : List (List Nat)} {last str : List Nat}

/-! ## The strings of the codes -/

/-- The string of a code in a finished table, with no entry about to be made. -/
def tableString (m : Nat) (strings : List (List Nat)) (code : Nat) : Option (List Nat) :=
  codeString m strings [] code

theorem tableString_of_lt (h : code < 2 ^ m) : tableString m strings code = some [code] := by
  rw [tableString, codeString, if_pos h]

/-- From the first free code on, the codes number the entries of the table, and the next one is the
entry about to be made. -/
theorem codeString_firstCode_add (m k : Nat) (table : List (List Nat)) (last : List Nat) :
    codeString m table last (firstCode m + k) =
      if k = table.length then (if last = [] then none else some (last ++ last.take 1))
      else table[k]? := by
  have hroot : ¬ firstCode m + k < 2 ^ m := by
    unfold firstCode
    omega
  rw [codeString, if_neg hroot, if_neg (Nat.not_lt.2 (Nat.le_add_right _ _)),
    Nat.add_sub_cancel_left]
  simp only [Nat.add_right_inj]

theorem tableString_firstCode_add (m k : Nat) (strings : List (List Nat)) :
    tableString m strings (firstCode m + k) = strings[k]? := by
  rw [tableString, codeString_firstCode_add, if_pos rfl]
  split
  · next hend => rw [List.getElem?_eq_none hend.ge]
  · rfl

/-- A code with a string is a root code or numbers an entry of the table. -/
theorem tableString_cases (h : tableString m strings code = some str) :
    (code < 2 ^ m ∧ str = [code]) ∨ ∃ k, code = firstCode m + k ∧ strings[k]? = some str := by
  by_cases hroot : code < 2 ^ m
  · rw [tableString_of_lt hroot] at h
    exact .inl ⟨hroot, (Option.some.inj h).symm⟩
  · by_cases hfirst : code < firstCode m
    · rw [tableString, codeString, if_neg hroot, if_pos hfirst] at h
      cases h
    · obtain ⟨k, rfl⟩ := Nat.exists_eq_add_of_le (Nat.le_of_not_lt hfirst)
      rw [tableString_firstCode_add] at h
      exact .inr ⟨k, rfl, h⟩

/-- A new entry leaves the strings of all codes as they are. -/
theorem tableString_append (h : tableString m strings code = some str) (more : List (List Nat)) :
    tableString m (strings ++ more) code = some str := by
  rcases tableString_cases h with ⟨hroot, rfl⟩ | ⟨k, rfl, hk⟩
  · exact tableString_of_lt hroot
  · obtain ⟨hlt, -⟩ := List.getElem?_eq_some_iff.1 hk
    rw [tableString_firstCode_add, List.getElem?_append_left hlt, hk]

/-! ## The decoder's table -/

theorem growTable_of_nil (m : Nat) (table : List (List Nat)) (str : List Nat) :
    growTable m table [] str = table := if_pos rfl

theorem growTable_of_room (hlast : last ≠ []) (hroom : firstCode m + table.length < maxMaxCode) :
    growTable m table last str = table ++ [last ++ str.take 1] := by
  rw [growTable, if_neg hlast, if_pos hroom]

/-- Only the first index of the next string matters. -/
theorem growTable_append (hstr : str ≠ []) (more : List Nat) :
    growTable m table last (str ++ more) = growTable m table last str := by
  obtain ⟨x, str, rfl⟩ := List.exists_cons_of_ne_nil hstr
  rfl

/-- A code whose string is in the table that this very string completes is decoded to it: it is in
the table already, or it is the entry about to be made. -/
theorem codeString_of_growTable (hroom : firstCode m + table.length < maxMaxCode)
    (h : tableString m (growTable m table last str) code = some str) :
    codeString m table last code = some str := by
  rcases tableString_cases h with ⟨hroot, rfl⟩ | ⟨k, rfl, hk⟩
  · rw [codeString, if_pos hroot]
  · rw [codeString_firstCode_add]
    by_cases hlast : last = []
    · rw [hlast, growTable_of_nil] at hk
      obtain ⟨hlt, -⟩ := List.getElem?_eq_some_iff.1 hk
      rw [if_neg hlt.ne, hk]
    · rw [growTable_of_room hlast hroom] at hk
      split
      · next hend =>
        rw [hend, List.getElem?_concat_length] at hk
        obtain ⟨a, last, rfl⟩ := List.exists_cons_of_ne_nil hlast
        have hfirst : str.take 1 = [a] := by
          rw [← Option.some.inj hk]
          rfl
        rwa [hfirst] at hk
      · next hbefore =>
        obtain ⟨hlt, -⟩ := List.getElem?_eq_some_iff.1 hk
        rw [List.length_append, List.length_singleton] at hlt
        rwa [List.getElem?_append_left (by omega)] at hk

/-! ## The coder's strings -/

/-- What the coder's codes mean before it sends `ent`: `strings` are the strings of its dictionary
codes in their order, and `str` is the string matched so far. -/
structure CodesMean (m free ent : Nat) (dict : List ((Nat × Nat) × Nat))
    (strings : List (List Nat)) (str : List Nat) : Prop where
  size : free = firstCode m + strings.length
  dictStrings : ∀ e ∈ dict, ∃ init, tableString m strings e.1.1 = some init ∧
    tableString m strings e.2 = some (init ++ [e.1.2])
  entString : tableString m strings ent = some str
  nonempty : str ≠ []

namespace CodesMean

/-- After a CLEAR no code but the roots has a string. -/
theorem afterClear (hx : x < 2 ^ m) : CodesMean m (firstCode m) x [] [] [x] :=
  ⟨rfl, nofun, tableString_of_lt hx, List.cons_ne_nil _ _⟩

/-- The code of a longer string of the dictionary means that string. -/
theorem extend (h : CodesMean m free ent dict strings str)
    (hfound : Coder.lookup (ent, x) dict = some code) :
    CodesMean m free code dict strings (str ++ [x]) := by
  obtain ⟨init, hinit, hcode⟩ := h.dictStrings _ (Coder.lookup_mem hfound)
  obtain rfl := Option.some.inj (h.entString.symm.trans hinit)
  exact ⟨h.size, h.dictStrings, hcode, List.concat_ne_nil _ _⟩

/-- The code that enters the dictionary means the string matched and the index after it. -/
theorem insert (h : CodesMean m free ent dict strings str) (hx : x < 2 ^ m) :
    CodesMean m (free + 1) x (((ent, x), free) :: dict) (strings ++ [str ++ [x]]) [x] := by
  obtain ⟨rfl, hdict, hent, -⟩ := h
  refine ⟨?_, List.forall_mem_cons.2 ⟨⟨str, tableString_append hent _, ?_⟩, fun e he => ?_⟩,
    tableString_of_lt hx, List.cons_ne_nil _ _⟩
  · rw [List.length_append, List.length_singleton, Nat.add_assoc]
  · rw [tableString_firstCode_add, List.getElem?_concat_length]
  · obtain ⟨init, hinit, hcode⟩ := hdict e he
    exact ⟨init, tableString_append hinit _, tableString_append hcode _⟩

end CodesMean

/-! ## Coder and decoder in step -/

/-- The coder before a code and the decoder before it: the decoder's table, completed by the string
matched so far, holds the strings of the coder's dictionary. -/
structure InStep (m w j free ent : Nat) (dict : List ((Nat × Nat) × Nat))
    (table : List (List Nat)) (last str : List Nat) : Prop where
  inv : CodingInv m w j free ent dict
  codes : CodesMean m free ent dict (growTable m table last str) str
  room : firstCode m + table.length < maxMaxCode

namespace InStep

theorem afterClear (hm : 2 ≤ m) (hm' : m ≤ 8) (hx : x < 2 ^ m) :
    InStep m (m + 1) 1 (firstCode m) x [] [] [] [x] :=
  ⟨.afterClear hm hm' hx, .afterClear hx, (Coder.firstCode_le hm').trans_lt (by decide)⟩

theorem extend (h : InStep m w j free ent dict table last str)
    (hfound : Coder.lookup (ent, x) dict = some code) :
    InStep m w j free code dict table last (str ++ [x]) := by
  refine ⟨h.inv.extend hfound, ?_, h.room⟩
  rw [growTable_append h.codes.nonempty]
  exact h.codes.extend hfound

/-- After a data code the decoder's table is complete, and the entry the coder makes is the
decoder's next one. -/
theorem insert (h : InStep m w j free ent dict table last str) (hmax : free < maxMaxCode)
    (hx : x < 2 ^ m) : InStep m (nextWidth m w j) (j + 1) (free + 1) x (((ent, x), free) :: dict)
      (growTable m table last str) str [x] := by
  have hroom : firstCode m + (growTable m table last str).length < maxMaxCode :=
    h.codes.size ▸ hmax
  refine ⟨h.inv.insert hmax hx _, ?_, hroom⟩
  rw [growTable_of_room h.codes.nonempty hroom]
  exact h.codes.insert hx

/-- The decoder reads the coder's data code as the string matched. -/
theorem readsAs_data (h : InStep m w j free ent dict table last str) {rest : List Bool}
    {out : List Nat}
    (hrest : ReadsAs m rest (nextWidth m w j) (j + 1) (growTable m table last str) str out) :
    ReadsAs m (codeBits ent w ++ rest) w j table last (str ++ out) := by
  obtain ⟨-, hclear, heoi⟩ := h.inv.entCode
  exact hrest.data h.inv.fits_ent hclear heoi (codeString_of_growTable h.room h.codes.entString)

end InStep

theorem bitString_cons_append (code w : Nat) (cs : List (Nat × Nat)) (pad : List Bool) :
    bitString ((code, w) :: cs) ++ pad = codeBits code w ++ (bitString cs ++ pad) := by
  rw [bitString, List.flatMap_cons, List.append_assoc]
  rfl

/-- The codes still to come decode to the string matched so far and the indices still to come. -/
theorem InStep.readsAs (hm : 2 ≤ m) (hm' : m ≤ 8) (h : InStep m w j free ent dict table last str)
    (hxs : ∀ x ∈ xs, x < 2 ^ m) (pad : List Bool) :
    ReadsAs m (bitString (widthCodesFrom m w j free ent dict xs) ++ pad) w j table last
      (str ++ xs) := by
  have hclear : ent ≠ clearCode m := h.inv.entCode.2.1
  have hnext := nextWidth_range h.inv.width j
  induction xs generalizing w j free ent dict table last str with
  | nil =>
    rw [widthCodesFrom_nil hclear, bitString_cons_append, bitString_cons_append]
    exact h.readsAs_data (.eoi _ (fitsWidth_of_le_eoiCode hm hnext le_rfl))
  | cons x xs ih =>
    obtain ⟨hx, hrest⟩ := List.forall_mem_cons.1 hxs
    have step {w j free ent dict table last str}
        (h : InStep m w j free ent dict table last str) :=
      ih h hrest h.inv.entCode.2.1 (nextWidth_range h.inv.width j)
    cases hlookup : Coder.lookup (ent, x) dict with
    | some code =>
      rw [widthCodesFrom_of_found hlookup, List.append_cons]
      exact step (h.extend hlookup)
    | none =>
      by_cases hmax : free < maxMaxCode
      · rw [widthCodesFrom_of_room hclear hlookup hmax, bitString_cons_append]
        exact h.readsAs_data (step (h.insert hmax hx))
      · rw [widthCodesFrom_of_full hclear hlookup hmax, bitString_cons_append,
          bitString_cons_append]
        exact h.readsAs_data ((step (.afterClear hm hm' hx)).clear
          (fitsWidth_of_le_eoiCode hm hnext (Nat.le_succ _)))

/-- Settles O40: the stream is the framed format, and from the first CLEAR on the decoder stays in
step with the coder. -/
theorem streamDecodesToItsIndices : Obligations.StreamDecodesToItsIndices := by
  intro m idx hm hm' hne hidx
  rw [streamHasTheDecodersFormat m idx hm hm' hne hidx, streamOf_eq_framed]
  refine gifDecode_framed hm' fun pad => ?_
  obtain ⟨x, xs, rfl⟩ := List.exists_cons_of_ne_nil hne
  obtain ⟨hx, hxs⟩ := List.forall_mem_cons.1 hidx
  rw [List.map_cons, widthCodes_cons, bitString_cons_append]
  exact ((InStep.afterClear hm hm' hx).readsAs hm hm' (List.forall_mem_map.2 hxs) pad).clear
    (fitsWidth_of_le_eoiCode hm ⟨le_rfl, by omega⟩ (Nat.le_succ _))

end Sys2Proof.Machine
end

section
/-! COMPRESS: its three ends, an index out of range, a stream that does not fit and the stream in
OUTMEM, with the error its completion records (43_lzw.md R200, R203, R215, R216). -/

namespace Sys2Proof.Machine

variable {s t u : State} {p m n : Nat} {idx : List Byte} {i : Instr} {code : ErrCode} {info : Word}
  {error : Option CmdError} {mem : Memory}

/-! ## The range check (43_lzw.md R203) -/

theorem rangeError_eq_none_iff : rangeError m idx = none ↔ ∀ x ∈ idx, x.toNat < 2 ^ m := by
  simp [rangeError]

theorem rangeError_indices_eq_none (h : ∀ p, p < n → (mem.index p).toNat < 2 ^ m) :
    rangeError m (mem.indices n) = none := by
  rw [rangeError_eq_none_iff, Memory.indices, List.forall_mem_map]
  exact fun p hp => h p (List.mem_range.1 hp)

/-- The smallest position with an index of 2^m or above is the one the check answers. -/
theorem rangeError_indices_eq_some (hp : p < n) (hlarge : 2 ^ m ≤ (mem.index p).toNat)
    (hsmall : ∀ p', p' < p → (mem.index p').toNat < 2 ^ m) :
    rangeError m (mem.indices n) = some p := by
  refine List.findIdx?_eq_some_iff_getElem.2 ⟨by rwa [Memory.indices_length], ?_, fun p' hp' => ?_⟩
  · simpa [Memory.indices] using hlarge
  · simpa [Memory.indices] using hsmall p' hp'

/-! ## OUTMEM after a phase (43_lzw.md R215) -/

theorem outByte_openOut (mem : Memory) (draw j : Nat) :
    (mem.openOut draw).outByte j = Config.openByte draw (outAddr j) :=
  Memory.read_openOut (Nat.le_add_right _ _) mem draw

theorem outByte_writeBytes (mem : Memory) (vs : List Byte) (j : Nat) :
    (mem.writeBytes (outAddr 0) vs).outByte j =
      if j < vs.length then vs.getD j 0 else mem.outByte j := by
  have hrange : outAddr 0 ≤ outAddr j ∧ outAddr j < outAddr 0 + vs.length ↔ j < vs.length := by
    unfold outAddr
    omega
  have hoff : outAddr j - outAddr 0 = j := by
    unfold outAddr
    omega
  rw [Memory.outByte, Memory.read_writeBytes, hoff, if_congr hrange rfl rfl]
  rfl

/-! ## The status of the running command (40_control.md R124, R125) -/

theorem acceptedStatus_accept (i : Instr) (s : State) : acceptedStatus i s (s.accept i) none :=
  ⟨rfl, rfl, rfl, rfl, rfl, _, rfl, rfl, rfl⟩

namespace acceptedStatus

theorem openOutput (h : acceptedStatus i s u error) :
    acceptedStatus i s (openOutput u) error := h

theorem setCoder (h : acceptedStatus i s u error) (k : Coder) :
    acceptedStatus i s (u.setCoder k) error := by
  obtain ⟨hdone, herr, hcode, hinfo, hop, r, hr, hsnap, herror⟩ := h
  exact ⟨hdone, herr, hcode, hinfo, hop, { r with coder := some k },
    by rw [State.setCoder_running, hr, Option.map_some], hsnap, herror⟩

theorem raiseInPhase (h : acceptedStatus i s u error) (code : ErrCode) (info : Word) :
    acceptedStatus i s (u.raiseInPhase code info) (some ⟨code, info⟩) := by
  obtain ⟨hdone, herr, hcode, hinfo, hop, r, hr, hsnap, -⟩ := h
  exact ⟨hdone, herr, hcode, hinfo, hop, { r with error := some ⟨code, info⟩ },
    by rw [State.raiseInPhase_running, hr, Option.map_some], hsnap, rfl⟩

/-- The completion records the error the command has raised (60_exceptions.md R254). -/
theorem complete_of_error (h : acceptedStatus i s t (some ⟨code, info⟩)) :
    t.complete.busy = false ∧ t.complete.done = true ∧ t.complete.err = true ∧
      t.complete.errCode = code ∧ t.complete.errInfo = info := by
  obtain ⟨-, -, -, -, -, r, hr, -, herror⟩ := h
  rw [State.complete_of_error hr herror]
  exact ⟨rfl, rfl, rfl, rfl, rfl⟩

theorem complete_errCode_of_success (h : acceptedStatus i s t none) :
    t.complete.errCode = .none := by
  obtain ⟨-, -, hcode, -, -, r, hr, -, herror⟩ := h
  rw [State.complete_of_success hr herror]
  exact hcode

end acceptedStatus

/-! ## The command -/

/-- The state COMPRESS leaves when it is accepted with its precondition met. -/
def compressed (s : State) : State := compressBody s.snapshot (s.accept .compress)

theorem exec_compress_of_accepted (hb : s.busy = false) (hn : pixels s ≤ s.params.maxPixels) :
    exec .compress s = .next (compressed s) :=
  exec_of_accepted hb (preconditionError_eq_none_iff.2
    ⟨fun _ => by rwa [pixCount_toNat_eq_pixels], fun h => absurd h (by decide)⟩)

/-- The phase runs on IDX[0..N-1] with the minimum code size of PALBITS (43_lzw.md R200, R201). -/
theorem compressed_eq_compressIndices (s : State) : compressed s =
    compressIndices (compressSize s) (frameIndices s) (openOutput (s.accept .compress)) := by
  rw [frameIndices, ← pixCount_toNat_eq_pixels]
  rfl

/-- The state COMPRESS commits in: OUTMEM is open and the coder has run (43_lzw.md R200). -/
def coded (s : State) : State :=
  (openOutput (s.accept .compress)).setCoder (lzw (compressSize s) (frameIndices s))

theorem compressed_of_inRange (h : ∀ p, p < pixels s → (s.mem.index p).toNat < 2 ^ compressSize s) :
    compressed s = commit (lzwStream (compressSize s) (frameIndices s)) (coded s) :=
  (compressed_eq_compressIndices s).trans (compressIndices_ok (rangeError_indices_eq_none h))

theorem acceptedStatus_coded (s : State) : acceptedStatus .compress s (coded s) none :=
  (acceptedStatus_accept .compress s).openOutput.setCoder _

/-- What COMPRESS keeps, however it ends. -/
theorem compressed_frame (s : State) :
    memSameBut inOutmem s (compressed s) ∧ sameConfig s (compressed s) ∧
      samePort s (compressed s) ∧ (compressed s).palValid = s.palValid ∧
      (compressed s).used = s.used ∧ (compressed s).transIndex = s.transIndex :=
  ⟨compressPhase_memSameBut _ _ (s.accept .compress),
    bodyOf_sameConfig (i := .compress) (by decide) _ (s.accept .compress),
    bodyOf_samePort .compress _ (s.accept .compress), compressPhase_palValid _ _ _,
    compressPhase_used _ _ _, compressPhase_transIndex _ _ _⟩

/-! ## COMPRESS with an error -/

/-- COMPRESS raises the error: no output is valid, only OUTMEM changes, and the completion records
the error (43_lzw.md R216; 60_exceptions.md R254). -/
def CompressRaises (s : State) (code : ErrCode) (info : Word) : Prop :=
  ∃ t, exec .compress s = .next t ∧ acceptedStatus .compress s t (some ⟨code, info⟩) ∧
    t.outValid = false ∧ t.outLen = 0 ∧
    memSameBut inOutmem s t ∧ sameConfig s t ∧ samePort s t ∧
    t.palValid = s.palValid ∧ t.used = s.used ∧ t.transIndex = s.transIndex ∧
    t.complete.busy = false ∧ t.complete.done = true ∧ t.complete.err = true ∧
    t.complete.errCode = code ∧ t.complete.errInfo = info

/-- A phase that raises an error before its commit leaves the output it opened. -/
theorem compressRaises_of_raiseInPhase (hb : s.busy = false) (hn : pixels s ≤ s.params.maxPixels)
    (hphase : compressed s = u.raiseInPhase code info) (hstatus : acceptedStatus .compress s u none)
    (hvalid : u.outValid = false) (hlen : u.outLen = 0) : CompressRaises s code info := by
  obtain ⟨hmem, hconfig, hport, hpal, hused, htrans⟩ := compressed_frame s
  have hraised : acceptedStatus .compress s (compressed s) (some ⟨code, info⟩) :=
    hphase ▸ hstatus.raiseInPhase code info
  exact ⟨_, exec_compress_of_accepted hb hn, hraised,
    (congrArg State.outValid hphase).trans hvalid, (congrArg State.outLen hphase).trans hlen,
    hmem, hconfig, hport, hpal, hused, htrans, hraised.complete_of_error⟩

/-- Settles O37: the range check answers the position before the coder starts. -/
theorem compressRejectsLargeIndices : Obligations.CompressRejectsLargeIndices := by
  intro s p hb hn hp hlarge hsmall
  have hrange : rangeError (compressSize s) (frameIndices s) = some p :=
    rangeError_indices_eq_some hp hlarge hsmall
  exact compressRaises_of_raiseInPhase hb hn
    ((compressed_eq_compressIndices s).trans (compressIndices_range hrange))
    (acceptedStatus_accept .compress s).openOutput rfl rfl

/-- Settles O38: the indices pass the range check, and the commit finds the stream too long. -/
theorem compressReportsOverflow : Obligations.CompressReportsOverflow := by
  intro s hb hn hidx hlong
  exact compressRaises_of_raiseInPhase hb hn
    ((compressed_of_inRange hidx).trans (commit_overflow hlong)) (acceptedStatus_coded s) rfl rfl

/-- Settles O36: the indices pass the range check, and the commit stores the stream in the opened
OUTMEM. -/
theorem compressWritesTheStream : Obligations.CompressWritesTheStream := by
  intro s hb hn hidx hfits hcap
  have hphase := (compressed_of_inRange hidx).trans (commit_fits hfits)
  have hmem : (compressed s).mem = (s.mem.openOut s.free).writeBytes (outAddr 0)
      (lzwStream (compressSize s) (frameIndices s)) := congrArg State.mem hphase
  have hlen : (lzwStream (compressSize s) (frameIndices s)).length < 2 ^ 25 := by omega
  obtain ⟨hkeep, hconfig, hport, hpal, hused, htrans⟩ := compressed_frame s
  refine ⟨_, exec_compress_of_accepted hb hn, hphase ▸ acceptedStatus_coded s,
    congrArg State.outValid hphase, ?_, fun j b hj => ?_, fun j hj => ?_, hkeep, hconfig, hport,
    hpal, hused, htrans, compressPhase_free _ _ _⟩
  · rw [hphase, State.setOutput_outLen, BitVec.toNat_ofNat, Nat.mod_eq_of_lt hlen]
  · obtain ⟨hlt, -⟩ := List.getElem?_eq_some_iff.1 hj
    rw [hmem, outByte_writeBytes, if_pos hlt, List.getD_eq_getElem?_getD, hj, Option.getD_some]
  · rw [hmem, outByte_writeBytes, if_neg (Nat.not_lt.2 hj), outByte_openOut]

end Sys2Proof.Machine
end

section
/-! With OUT_CAP at OUT_BOUND(MAX_PIXELS) or above, the COMPRESS phase of COMPRESS and of FRAME
never overflows (43_lzw.md R215, 44_compound.md R241, 00_scope.md R9). -/

namespace Sys2Proof.Machine

variable {s t u : State} {m : Nat} {idx : List Byte} {i : Instr}

/-! ## The bound over the frame -/

theorem outBound_mono {n n' : Nat} (h : n ≤ n') : outBound n ≤ outBound n' := by
  have hclears : (n - 1) / 3839 ≤ (n' - 1) / 3839 := Nat.div_le_div_right (by omega)
  rw [Coder.outBound_eq, Coder.outBound_eq]
  exact Coder.streamBytes_mono (by omega)

/-- A frame has a pixel (10_state.md R35). -/
theorem State.Inv.pixels_pos (h : s.Inv) : 0 < pixels s := by
  obtain ⟨hw, hh⟩ := h.geometry
  refine Nat.mul_pos (Nat.pos_of_ne_zero fun hzero => hw ?_)
    (Nat.pos_of_ne_zero fun hzero => hh ?_)
  · exact BitVec.eq_of_toNat_eq hzero
  · exact BitVec.eq_of_toNat_eq hzero

/-- A COMPRESS phase on a whole frame, after phases that raised no error: with room for the bound it
ends with an index out of range or with a valid output. -/
theorem compressIndices_of_capacity (h : s.Inv) (hn : pixels s ≤ s.params.maxPixels)
    (hcap : outBound s.params.maxPixels ≤ s.params.outCap) (hu : acceptedStatus i s u none)
    (hparams : u.params = s.params) (hlen : idx.length = pixels s) (hm : m ≤ 8) :
    (∃ p, rangeError m idx = some p ∧
      acceptedStatus i s (compressIndices m idx u) (some ⟨.indexRange, BitVec.ofNat 32 p⟩)) ∨
    (acceptedStatus i s (compressIndices m idx u) none ∧
      (compressIndices m idx u).outValid = true) := by
  cases hrange : rangeError m idx with
  | some p =>
    rw [compressIndices_range hrange]
    exact .inl ⟨p, rfl, hu.raiseInPhase _ _⟩
  | none =>
    have hne : idx ≠ [] := List.ne_nil_of_length_pos (hlen ▸ h.pixels_pos)
    have hfits : (lzwStream m idx).length ≤ (u.setCoder (lzw m idx)).params.outCap := calc
      (lzwStream m idx).length ≤ outBound idx.length :=
        lzwStream_length_le hm hne (rangeError_eq_none_iff.1 hrange)
      _ ≤ outBound s.params.maxPixels := outBound_mono (hlen.trans_le hn)
      _ ≤ u.params.outCap := hparams ▸ hcap
    rw [compressIndices_ok hrange, commit_fits hfits]
    exact .inr ⟨hu.setCoder _, rfl⟩

/-! ## The two commands -/

theorem compressed_of_capacity (h : s.Inv) (hn : pixels s ≤ s.params.maxPixels)
    (hcap : outBound s.params.maxPixels ≤ s.params.outCap) :
    (∃ p, rangeError (compressSize s) (frameIndices s) = some p ∧
      acceptedStatus .compress s (compressed s) (some ⟨.indexRange, BitVec.ofNat 32 p⟩)) ∨
    (acceptedStatus .compress s (compressed s) none ∧ (compressed s).outValid = true) := by
  rw [compressed_eq_compressIndices]
  exact compressIndices_of_capacity h hn hcap (acceptedStatus_accept .compress s).openOutput rfl
    (Memory.indices_length _ _) (max_le (by decide) h.palBits.2)

theorem exec_frame_of_accepted (hb : s.busy = false) (hn : pixels s ≤ s.params.maxPixels) :
    exec .frame s = .next (frameBody s.snapshot (s.accept .frame)) :=
  exec_of_accepted hb (preconditionError_eq_none_iff.2
    ⟨fun _ => by rwa [pixCount_toNat_eq_pixels], fun h => absurd h (by decide)⟩)

/-- The state in which FRAME starts its COMPRESS phase (44_compound.md R241). -/
def frameMapped (s : State) : State :=
  frameTransparency s.snapshot (mapPhase s.snapshot (trainPhase s.snapshot (s.accept .frame)))

theorem acceptedStatus_frameMapped (s : State) : acceptedStatus .frame s (frameMapped s) none := by
  simp [acceptedStatus, frameMapped]

/-- At depth 8 every index is in range. -/
theorem rangeError_eight_eq_none (idx : List Byte) : rangeError 8 idx = none :=
  rangeError_eq_none_iff.2 fun x _ => x.isLt

theorem frameBody_of_capacity (h : s.Inv) (hn : pixels s ≤ s.params.maxPixels)
    (hcap : outBound s.params.maxPixels ≤ s.params.outCap) :
    acceptedStatus .frame s (frameBody s.snapshot (s.accept .frame)) none ∧
      (frameBody s.snapshot (s.accept .frame)).outValid = true := by
  have hlen : ((frameMapped s).mem.indices s.snapshot.n.toNat).length = pixels s :=
    (Memory.indices_length _ _).trans (pixCount_toNat_eq_pixels s)
  have hparams : (openOutput (frameMapped s)).params = s.params := by simp [frameMapped]
  obtain ⟨p, hrange, -⟩ | hvalid := compressIndices_of_capacity h hn hcap
    (acceptedStatus_frameMapped s).openOutput hparams hlen (le_refl 8)
  · rw [rangeError_eight_eq_none] at hrange
    cases hrange
  · exact hvalid

/-- BAD_GEOM is what COMPRESS and FRAME leave of a frame above the capacity. -/
theorem complete_errCode_of_badGeom (hb : s.busy = false) (hi : checksGeometry i = true)
    (hn : s.params.maxPixels < pixels s) (ht : exec i s = .next t) :
    t.complete.errCode = .badGeom := by
  rw [exec_eq_issue, issue_of_failed hb (preconditionError_of_badGeom hi hn)] at ht
  obtain rfl := Host.Outcome.next.inj ht
  rw [State.complete_of_idle (State.finish_running _), State.finish_errCode,
    State.recordError_errCode]

/-- Settles O43: the stream of a frame is within OUT_BOUND(MAX_PIXELS), and at depth 8 no index is
out of range. -/
theorem defaultCapacityNeverOverflows : Obligations.DefaultCapacityNeverOverflows := by
  intro s h hb hcap
  refine ⟨fun i t hi ht => ?_, fun hn =>
    ⟨⟨_, exec_frame_of_accepted hb hn, frameBody_of_capacity h hn hcap⟩, fun hidx => ?_⟩⟩
  · by_cases hn : pixels s ≤ s.params.maxPixels
    · rcases hi with rfl | rfl
      · rw [exec_compress_of_accepted hb hn] at ht
        obtain rfl := Host.Outcome.next.inj ht
        obtain ⟨p, -, hraised⟩ | ⟨hstatus, -⟩ := compressed_of_capacity h hn hcap
        · obtain ⟨-, -, -, hcode, -⟩ := hraised.complete_of_error
          simp [hcode]
        · simp [hstatus.complete_errCode_of_success]
      · rw [exec_frame_of_accepted hb hn] at ht
        obtain rfl := Host.Outcome.next.inj ht
        obtain ⟨hstatus, -⟩ := frameBody_of_capacity h hn hcap
        simp [hstatus.complete_errCode_of_success]
    · have hgeom : checksGeometry i = true := by rcases hi with rfl | rfl <;> rfl
      simp [complete_errCode_of_badGeom hb hgeom (Nat.lt_of_not_le hn) ht]
  · refine ⟨_, exec_compress_of_accepted hb hn, ?_⟩
    obtain ⟨p, hrange, -⟩ | hvalid := compressed_of_capacity h hn hcap
    · rw [frameIndices, rangeError_indices_eq_none hidx] at hrange
      cases hrange
    · exact hvalid

end Sys2Proof.Machine
end

section
/-! QUANTIZE and FRAME against their phases issued as commands (44_compound.md R240 to R243). "Each
phase reads the state the phase before it left, and nothing else carries between phases" (R243): so
the phases are run on what is carried, and only the status of the last command is added to it. -/

namespace Sys2Proof.Machine

variable {s t u w x : State} {i j : Instr} {c : Snapshot} {error : Option CmdError}

/-! ## What is carried between phases -/

/-- What a phase hands to the next one (44_compound.md R243): the state without the status and the
hidden state of the running command, and without PALBITS, which FRAME does not read (R241). -/
def State.carried (s : State) : State :=
  { s with
    done := false, err := false, errCode := .none, errInfo := 0, curOp := 0,
    running := none, palBits := 0 }

@[simp] theorem carried_accept (i : Instr) (s : State) : (s.accept i).carried = s.carried := rfl

@[simp] theorem carried_complete (s : State) : s.complete.carried = s.carried := by
  cases hr : s.running with
  | none => rw [State.complete_of_idle hr]
  | some r =>
    cases he : r.error with
    | none => rw [State.complete_of_success hr he]; rfl
    | some e => rw [State.complete_of_error hr he]; rfl

@[simp] theorem carried_trainPhase (c : Snapshot) (s : State) :
    (trainPhase c s).carried = trainPhase c s.carried := rfl

@[simp] theorem carried_mapPhase (c : Snapshot) (s : State) :
    (mapPhase c s).carried = mapPhase c s.carried := rfl

@[simp] theorem carried_transFindPhase (c : Snapshot) (s : State) :
    (transFindPhase c s).carried = transFindPhase c s.carried := rfl

@[simp] theorem carried_quantizeBody (c : Snapshot) (s : State) :
    (quantizeBody c s).carried = quantizeBody c s.carried := by
  simp [quantizeBody]

@[simp] theorem carried_frameTransparency (c : Snapshot) (s : State) :
    (frameTransparency c s).carried = frameTransparency c s.carried := by
  unfold frameTransparency
  split <;> rfl

theorem carried_commit (stream : List Byte) (s : State) :
    (commit stream s).carried = commit stream s.carried := by
  rcases Nat.lt_or_ge s.params.outCap stream.length with hlong | hfits
  · rw [commit_overflow hlong, commit_overflow (s := s.carried) hlong]
    rfl
  · rw [commit_fits hfits, commit_fits (s := s.carried) hfits]
    rfl

theorem carried_compressIndices (m : Nat) (idx : List Byte) (s : State) :
    (compressIndices m idx s).carried = compressIndices m idx s.carried := by
  cases hrange : rangeError m idx with
  | some p =>
    rw [compressIndices_range hrange, compressIndices_range hrange]
    rfl
  | none =>
    rw [compressIndices_ok hrange, compressIndices_ok hrange]
    exact carried_commit _ _

@[simp] theorem carried_compressPhase (d : Nat) (c : Snapshot) (s : State) :
    (compressPhase d c s).carried = compressPhase d c s.carried :=
  carried_compressIndices _ _ _

/-- A completed command is what it carries with the status of its end (40_control.md R124, R125). -/
theorem acceptedStatus.complete_eq_carried (h : acceptedStatus i s t error) : t.complete =
    { t.carried with
      done := true, err := error.isSome, errCode := (error.map CmdError.code).getD .none,
      errInfo := (error.map CmdError.info).getD 0, curOp := i.op, palBits := t.palBits } := by
  obtain ⟨-, herr, hcode, hinfo, hop, r, hr, -, herror⟩ := h
  cases error with
  | none =>
    rw [State.complete_of_success hr herror, ← hop]
    simp [State.finish, State.carried, herr, hcode, hinfo]
  | some e =>
    rw [State.complete_of_error hr herror, ← hop]
    rfl

/-- Two commands that carry the same and end with the same error differ in CUR_OP and PALBITS. -/
theorem complete_eq_of_carried_eq (ht : acceptedStatus i s t error)
    (hw : acceptedStatus j u w error) (h : t.carried = w.carried) :
    t.complete = { w.complete with curOp := i.op, palBits := t.palBits } := by
  rw [ht.complete_eq_carried, hw.complete_eq_carried, h]

/-! ## The phases issued as commands -/

theorem sameConfig.trans (h : sameConfig s t) (h' : sameConfig t u) : sameConfig s u := by
  simp_all only [sameConfig, and_self]

theorem sameConfig_complete (s : State) : sameConfig s s.complete := by simp [sameConfig]

theorem sameConfig.snapshot_eq (h : sameConfig s t) : t.snapshot = s.snapshot := by
  obtain ⟨-, -, -, hte, hw, hh, hq, hp, ht⟩ := h
  simp only [State.snapshot, hte, hw, hh, hq, hp, ht]

theorem sameConfig.pixels_eq (h : sameConfig s t) : pixels t = pixels s := by
  obtain ⟨-, -, -, -, hw, hh, -⟩ := h
  rw [pixels, hw, hh, pixels]

/-- The phases that cannot fail once accepted: TRAIN, MAP and TRANS_FIND. -/
def isPlainPhase (i : Instr) : Prop := i = .train ∨ i = .map ∨ i = .transFind

theorem carried_bodyOf (hi : isPlainPhase i) (c : Snapshot) (s : State) :
    (bodyOf i c s).carried = bodyOf i c s.carried := by
  rcases hi with rfl | rfl | rfl
  · exact carried_trainPhase c s
  · exact carried_mapPhase c s
  · exact carried_transFindPhase c s

theorem acceptedStatus_bodyOf (hi : isPlainPhase i) (s : State) :
    acceptedStatus i s (bodyOf i s.snapshot (s.accept i)) none := by
  rcases hi with rfl | rfl | rfl <;> exact ⟨rfl, rfl, rfl, rfl, rfl, _, rfl, rfl, rfl⟩

/-- Between two commands of a sequence that began in s: the block is idle, the configuration is that
of s, and x is carried to the next phase. -/
structure IsBetween (s x t : State) : Prop where
  idle : t.busy = false
  config : sameConfig s t
  carried : t.carried = x

namespace IsBetween

theorem start (h : s.busy = false) : IsBetween s s.carried s :=
  ⟨h, ⟨rfl, rfl, rfl, rfl, rfl, rfl, rfl, rfl, rfl⟩, rfl⟩

theorem preconditionError_eq_none (h : IsBetween s x t) (hn : pixels s ≤ s.params.maxPixels)
    (hp : checksPalette i = true → x.palValid = true) : preconditionError i t = none := by
  obtain ⟨hparams, -⟩ := h.config
  refine preconditionError_eq_none_iff.2 ⟨fun _ => ?_, fun hi => ?_⟩
  · rwa [pixCount_toNat_eq_pixels, h.config.pixels_eq, hparams]
  · exact (congrArg State.palValid h.carried).trans (hp hi)

/-- The next command runs its phase on what is carried, with the snapshot of s. -/
theorem phase (h : IsBetween s x t) (hi : isPlainPhase i) (hn : pixels s ≤ s.params.maxPixels)
    (hp : checksPalette i = true → x.palValid = true) :
    ∃ u, exec i t = .next u ∧ acceptedStatus i t u none ∧
      IsBetween s (bodyOf i s.snapshot x) u.complete := by
  have hreset : i ≠ .softReset := by rintro rfl; simp [isPlainPhase] at hi
  refine ⟨_, exec_of_accepted h.idle (h.preconditionError_eq_none hn hp),
    acceptedStatus_bodyOf hi t, complete_busy _, ?_, ?_⟩
  · have hbody : sameConfig t (bodyOf i t.snapshot (t.accept i)) :=
      bodyOf_sameConfig hreset t.snapshot (t.accept i)
    exact (h.config.trans hbody).trans (sameConfig_complete _)
  · rw [carried_complete, carried_bodyOf hi, carried_accept, h.carried, h.config.snapshot_eq]

/-- FRAME's third phase, as a command where TRANS_EN is 1 and as a write of 0 where it is 0. -/
theorem transparency (h : IsBetween s x t) (hn : pixels s ≤ s.params.maxPixels)
    (hp : x.palValid = true) :
    ∃ w, (s.transEn = true → ∃ v, exec .transFind t = .next v ∧ w = v.complete) ∧
      (s.transEn = false → w = { t with transIndex := 0 }) ∧
      IsBetween s (frameTransparency s.snapshot x) w := by
  cases hte : s.transEn with
  | true =>
    obtain ⟨v, hexec, -, hv⟩ := h.phase (.inr (.inr rfl)) hn fun _ => hp
    have hphase : frameTransparency s.snapshot x = transFindPhase s.snapshot x := if_pos hte
    exact ⟨_, fun _ => ⟨v, hexec, rfl⟩, nofun, hphase ▸ hv⟩
  | false =>
    have hphase : frameTransparency s.snapshot x = x.setTransIndex 0 := if_neg (by simp [hte])
    refine ⟨_, nofun, fun _ => rfl, h.idle, h.config, ?_⟩
    rw [hphase, ← h.carried]
    rfl

end IsBetween

/-! ## The last phase of FRAME -/

/-- The error of a COMPRESS phase at depth 8: the stream does not fit (43_lzw.md R215). -/
def overflowError (c : Snapshot) (s : State) : Option CmdError :=
  if s.params.outCap < (lzwStream 8 (s.mem.indices c.n.toNat)).length then
    some ⟨.outOverflow, BitVec.ofNat 32 s.params.outCap⟩
  else none

theorem overflowError_carried (c : Snapshot) (s : State) :
    overflowError c s.carried = overflowError c s := rfl

/-- The two ends of a COMPRESS phase at depth 8, where no index is out of range
(43_lzw.md R203, R215, R216). -/
theorem compressPhase_eight_spec (h : acceptedStatus i s u none) (c : Snapshot) :
    acceptedStatus i s (compressPhase 8 c u) (overflowError c u) ∧
    ((overflowError c u = none ∧ (compressPhase 8 c u).outValid = true) ∨
     (overflowError c u = some ⟨.outOverflow, BitVec.ofNat 32 u.params.outCap⟩ ∧
       (compressPhase 8 c u).outValid = false ∧ (compressPhase 8 c u).outLen = 0)) := by
  have hcoded : acceptedStatus i s
      ((openOutput u).setCoder (lzw 8 (u.mem.indices c.n.toNat))) none := h.openOutput.setCoder _
  rcases compressPhase_cases 8 c u with ⟨p, hrange, -⟩ | ⟨-, hlong, hphase⟩ | ⟨-, hfits, hphase⟩
  · exact absurd (hrange.symm.trans (rangeError_eight_eq_none _)) nofun
  · have herror : overflowError c u = _ := if_pos hlong
    rw [hphase, herror]
    exact ⟨hcoded.raiseInPhase _ _, .inr ⟨rfl, rfl, rfl⟩⟩
  · have herror : overflowError c u = none := if_neg (Nat.not_lt.2 hfits)
    rw [hphase, herror]
    exact ⟨hcoded, .inl ⟨rfl, rfl⟩⟩

/-- COMPRESS with PALBITS at 8 is FRAME's last phase (44_compound.md R241). -/
theorem IsBetween.compress (h : IsBetween s x w) (hn : pixels s ≤ s.params.maxPixels) :
    ∃ y, exec .compress { w with palBits := 8 } = .next y ∧
      acceptedStatus .compress { w with palBits := 8 } y (overflowError s.snapshot x) ∧
      y.carried = compressPhase 8 s.snapshot x := by
  have hpre := h.preconditionError_eq_none (i := .compress) hn nofun
  obtain ⟨hstatus, -⟩ := compressPhase_eight_spec
    (acceptedStatus_accept .compress { w with palBits := 8 }) w.snapshot
  rw [← h.carried, ← h.config.snapshot_eq]
  exact ⟨_, exec_of_accepted (s := { w with palBits := 8 }) h.idle hpre, hstatus,
    carried_compressPhase 8 w.snapshot _⟩

/-! ## The statements -/

theorem exec_quantize_of_accepted (hb : s.busy = false) (hn : pixels s ≤ s.params.maxPixels) :
    exec .quantize s = .next (quantizeBody s.snapshot (s.accept .quantize)) :=
  exec_of_accepted hb ((IsBetween.start hb).preconditionError_eq_none hn nofun)

theorem acceptedStatus_quantizeBody (s : State) :
    acceptedStatus .quantize s (quantizeBody s.snapshot (s.accept .quantize)) none :=
  ⟨rfl, rfl, rfl, rfl, rfl, _, rfl, rfl, rfl⟩

/-- FRAME's third phase runs on what QUANTIZE carries. -/
theorem carried_frameMapped (s : State) : (frameMapped s).carried =
    frameTransparency s.snapshot (quantizeBody s.snapshot s.carried) := by
  simp [frameMapped, quantizeBody]

/-- The two ends of FRAME (44_compound.md R241, R242). -/
theorem frameBody_spec (s : State) :
    acceptedStatus .frame s (frameBody s.snapshot (s.accept .frame))
      (overflowError s.snapshot (frameMapped s)) ∧
    ((overflowError s.snapshot (frameMapped s) = none ∧
       (frameBody s.snapshot (s.accept .frame)).outValid = true) ∨
     (overflowError s.snapshot (frameMapped s) =
         some ⟨.outOverflow, BitVec.ofNat 32 s.params.outCap⟩ ∧
       (frameBody s.snapshot (s.accept .frame)).outValid = false ∧
       (frameBody s.snapshot (s.accept .frame)).outLen = 0)) := by
  have hparams : (frameMapped s).params = s.params := by simp [frameMapped]
  exact hparams ▸ compressPhase_eight_spec (acceptedStatus_frameMapped s) s.snapshot

/-- TRAIN and MAP one after the other, each with its completion. -/
theorem exists_train_map (hb : s.busy = false) (hn : pixels s ≤ s.params.maxPixels) :
    ∃ t u, exec .train s = .next t ∧ exec .map t.complete = .next u ∧
      acceptedStatus .map t.complete u none ∧
      IsBetween s (quantizeBody s.snapshot s.carried) u.complete := by
  obtain ⟨t, htrain, -, ht⟩ := (IsBetween.start hb).phase (.inl rfl) hn nofun
  obtain ⟨u, hmap, hstatus, hu⟩ := ht.phase (.inr (.inl rfl)) hn fun _ => trainPhase_palValid _ _
  exact ⟨t, u, htrain, hmap, hstatus, hu⟩

/-- Settles O44: QUANTIZE and the two commands carry the same, and both end without an error. -/
theorem quantizeIsTrainThenMap : Obligations.QuantizeIsTrainThenMap := by
  intro s hb hn
  obtain ⟨t, u, htrain, hmap, hstatus, hu⟩ := exists_train_map hb hn
  have hcarried : (quantizeBody s.snapshot (s.accept .quantize)).carried = u.carried := by
    rw [carried_quantizeBody, carried_accept, ← hu.carried, carried_complete]
  obtain ⟨-, -, -, -, -, -, -, hpalBits, -⟩ := hu.config
  refine ⟨t, u, _, htrain, hmap, exec_quantize_of_accepted hb hn, acceptedStatus_quantizeBody s,
    quantizeBody_palValid _ _, ?_⟩
  rw [complete_eq_of_carried_eq (acceptedStatus_quantizeBody s) hstatus hcarried,
    quantizeBody_palBits, State.accept_palBits, ← hpalBits]
  rfl

/-- Settles O45: FRAME and its phases carry the same, so their streams and their errors are the
same. -/
theorem frameIsItsPhases : Obligations.FrameIsItsPhases := by
  intro s hb hn
  obtain ⟨t, u, htrain, hmap, -, hu⟩ := exists_train_map hb hn
  obtain ⟨w, hfind, hzero, hw⟩ := hu.transparency hn (quantizeBody_palValid _ _)
  obtain ⟨y, hcompress, hstatus, hy⟩ := hw.compress hn
  obtain ⟨hframe, -⟩ := frameBody_spec s
  rw [← carried_frameMapped, overflowError_carried] at hstatus
  rw [← carried_frameMapped] at hy
  have hcarried : (frameBody s.snapshot (s.accept .frame)).carried = y.carried :=
    (carried_compressPhase _ _ _).trans hy.symm
  refine ⟨t, u, w, y, _, htrain, hmap, hfind, hzero, hcompress, exec_frame_of_accepted hb hn, ?_⟩
  rw [complete_eq_of_carried_eq hframe hstatus hcarried, frameBody_palBits, State.accept_palBits]
  rfl

theorem frameTransparency_transIndex_of_disabled (hte : c.te = false) (s : State) :
    (frameTransparency c s).transIndex = 0 := by
  rw [frameTransparency, if_neg (by simp [hte]), State.setTransIndex_transIndex]

/-- The state in which FRAME starts its COMPRESS phase has the memory and USED of QUANTIZE. -/
theorem frameMapped_mem_used (s : State) :
    (frameMapped s).mem = (quantizeBody s.snapshot (s.accept .quantize)).mem ∧
      (frameMapped s).used = (quantizeBody s.snapshot (s.accept .quantize)).used :=
  ⟨frameTransparency_mem _ _, frameTransparency_used _ _⟩

theorem quantizeBody_memSameBut (c : Snapshot) (s : State) :
    memSameBut (fun a => inPalmem a ∨ inIdx c.n.toNat a) s (quantizeBody c s) :=
  ((trainPhase_memSameBut c s).mono fun _ => .inl).trans
    ((mapPhase_memSameBut c _).mono fun _ => .inr)

/-- Settles O46: only the last phase can fail, at depth 8 only by overflow, and it writes OUTMEM
alone. -/
theorem frameFailsOnlyByOverflow : Obligations.FrameFailsOnlyByOverflow := by
  intro s hb hn
  obtain ⟨hmem, hused⟩ := frameMapped_mem_used s
  obtain ⟨hstatus, houtput⟩ := frameBody_spec s
  have hquantize : memSameBut (fun a => inPalmem a ∨ inIdx (pixels s) a) s
      (quantizeBody s.snapshot (s.accept .quantize)) :=
    pixCount_toNat_eq_pixels s ▸ quantizeBody_memSameBut s.snapshot (s.accept .quantize)
  have hcompress : memSameBut inOutmem (quantizeBody s.snapshot (s.accept .quantize))
      (frameBody s.snapshot (s.accept .frame)) :=
    (compressPhase_memSameBut 8 s.snapshot (frameMapped s)).of_mem_eq hmem
  refine ⟨_, _, _, exec_quantize_of_accepted hb hn, exec_frame_of_accepted hb hn, hstatus,
    frameBody_palValid _ _, (compressPhase_used _ _ _).trans hused, fun hte => ?_,
    bodyOf_sameConfig (i := .frame) (by decide) _ _, bodyOf_samePort .frame _ _, hcompress, ?_,
    houtput⟩
  · exact (compressPhase_transIndex _ _ _).trans
      (frameTransparency_transIndex_of_disabled (c := s.snapshot) hte _)
  · exact (hquantize.mono fun _ => Or.imp_right .inl).trans
      (hcompress.mono fun _ h => .inr (.inr h))

end Sys2Proof.Machine
end

section
/-! Every event is served with a next state, and the error record after the completion
(60_exceptions.md R250, R253, R254). -/

namespace Sys2Proof.Machine

variable {s : State} {r : Running} {v : Word} {rest : List Event}

/-- A run of one more step starts with a step that answers. -/
theorem run_succ_of_step {t : State} (h : step s = .next t) (k : Nat) :
    Host.Core.run Sys2Proof.core (k + 1) s = Host.Core.run Sys2Proof.core k t := by
  have hcore : Sys2Proof.core.step s = .next t := h
  simp only [Host.Core.run, hcore]

/-- No access, completion or reset faults or is refused (60_exceptions.md R250). -/
theorem exists_serve_eq_next (e : Event) (s : State) : ∃ t, serve e s = .next t := by
  cases e with
  | read a => exact ⟨_, serve_read a s⟩
  | complete => exact ⟨_, serve_complete s⟩
  | reset => exact ⟨_, serve_reset s⟩
  | write a v =>
    by_cases ha : a = cmdOffset
    · obtain ⟨t, ht, -⟩ := presentCommand_samePort v (s.respond .okay 0)
      exact ⟨t, ha ▸ (serve_write_cmd v s).trans ht⟩
    · exact ⟨_, serve_write_other ha v s⟩

theorem step_write_cmd_of_busy (hb : s.busy = true)
    (hin : s.inputs = .write cmdOffset v :: rest) :
    step s = .next ((answered s rest .okay 0).recordError .cmdWhileBusy v) :=
  (step_write_cmd hin).trans (presentCommand_of_busy (s := answered s rest .okay 0) hb v)

theorem step_complete (hin : s.inputs = .complete :: rest) :
    step s = .next (s.setInputs rest).complete := step_of_cons hin

/-- With an error on record, the completion replaces the record by the running command's own error
and keeps it where the command has raised none (60_exceptions.md R253). -/
theorem complete_errorRecord (hrun : s.running = some r) (herr : s.err = true) :
    s.complete.err = true ∧
      (∀ e, r.error = some e → s.complete.errCode = e.code ∧ s.complete.errInfo = e.info) ∧
      (r.error = none → s.complete.errCode = s.errCode ∧ s.complete.errInfo = s.errInfo) := by
  cases he : r.error with
  | none =>
    rw [State.complete_of_success hrun he]
    exact ⟨herr, nofun, fun _ => ⟨rfl, rfl⟩⟩
  | some e =>
    rw [State.complete_of_error hrun he]
    exact ⟨rfl, fun _ h => Option.some.inj h ▸ ⟨rfl, rfl⟩, nofun⟩

/-! ## The statements -/

/-- Settles O18: the busy block records the rejection, and the completion treats it as any error
on record. -/
theorem lastErrorWins : Obligations.LastErrorWins := by
  intro s r v rest hrun hin
  have hbusy : s.busy = true := (State.busy_eq_true_iff s).2 ⟨r, hrun⟩
  have hreject := step_write_cmd_of_busy hbusy hin
  have hcomplete := step_complete (rest := rest)
    (s := (answered s (.complete :: rest) .okay 0).recordError .cmdWhileBusy v) rfl
  have htwo := (run_succ_of_step hreject 1).trans (run_succ_of_step hcomplete 0)
  exact ⟨_, htwo, complete_busy _, complete_done hbusy, complete_errorRecord hrun rfl⟩

/-- Settles O6, by the first event to come. -/
theorem everyStepAnswersNext : Obligations.EveryStepAnswersNext := by
  intro s
  cases hin : s.inputs with
  | nil => exact ⟨_, step_of_nil hin⟩
  | cons e rest =>
    rw [step_of_cons hin]
    exact exists_serve_eq_next e _

end Sys2Proof.Machine
end

section
/-! A running command completes once every event to come has been served, and the reset input
(70_reset_and_hazards.md R280, R291). -/

namespace Sys2Proof.Machine

variable {s t : State} {m : Memory}

/-! ## The events to come -/

/-- Serving an event takes none of the events behind it. -/
theorem serve_inputs {e : Event} (h : serve e s = .next t) : t.inputs = s.inputs := by
  cases e with
  | read a =>
    obtain rfl := Host.Outcome.next.inj h
    obtain ⟨r, d, heq | heq⟩ := hostRead_cases a s <;> rw [heq] <;> rfl
  | complete =>
    obtain rfl := Host.Outcome.next.inj h
    exact State.complete_inputs s
  | reset =>
    obtain rfl := Host.Outcome.next.inj h
    rfl
  | write a v =>
    by_cases ha : a = cmdOffset
    · obtain ⟨u, hu, hinputs, -⟩ := presentCommand_samePort v (s.respond .okay 0)
      rw [ha, serve_write_cmd, hu] at h
      obtain rfl := Host.Outcome.next.inj h
      exact hinputs
    · rw [serve_write_other ha] at h
      obtain rfl := Host.Outcome.next.inj h
      have hwrite : hostWrite a v s = (hostWrite a v s).setInputs s.inputs :=
        hostWrite_setInputs a v s s.inputs
      rw [hwrite, State.setInputs_inputs]

/-- Every event served and one step more, the block is idle: that last step completes what runs. -/
theorem exists_run_to_idle (s : State) : ∃ t : State,
    Host.Core.run Sys2Proof.core (s.inputs.length + 1) s = .next t ∧ t.busy = false := by
  induction hin : s.inputs generalizing s with
  | nil => exact ⟨s.complete, run_succ_of_step (step_of_nil hin) 0, complete_busy s⟩
  | cons e es ih =>
    obtain ⟨u, hserve⟩ := exists_serve_eq_next e (s.setInputs es)
    obtain ⟨t, hrun, hidle⟩ := ih u (serve_inputs hserve)
    have hstep : step s = .next u := (step_of_cons hin).trans hserve
    exact ⟨t, (run_succ_of_step hstep _).trans hrun, hidle⟩

/-! ## The memory and the registers after reset -/

/-- With no cell listed, every byte outside PALMEM is a free byte of its memory's draw (10_state.md
R46, R47, R50). -/
theorem read_of_unwritten_of_not_inPalmem (hm : m.cells = []) {a : Nat}
    (h : ¬ inPalmem a) :
    m.read a = Config.openByte (if outBase ≤ a then m.outTag else m.tag) a := by
  have hreset : resetByte a = none := if_neg h
  rw [Memory.read, hm, findCell, Memory.unlisted, hreset]

theorem palEntry_of_unwritten (hm : m.cells = []) {k : Nat} (hk : k < 256) :
    m.palEntry k = ⟨0, 0, 0⟩ :=
  palEntry_of_read_eq_zero (fun _ ha => read_of_unwritten_of_inPalmem hm ha) hk

/-- An idle block answers a read of a named register with the word in it. -/
theorem hostRead_of_idle {a : BitVec 26} {v : Word} (hidle : s.busy = false)
    (h : (regAt a.toNat).map (regWord s) = some v) : hostRead a s = s.respond .okay v := by
  obtain ⟨r, hr, rfl⟩ := Option.map_eq_some_iff.1 h
  exact hostRead_of_exact hr (by simp [hidle])

/-! ## The statements -/

/-- Settles O9: when every event has been served, one step more leaves the block idle. -/
theorem runningCommandCompletes : Obligations.RunningCommandCompletes := by
  intro s _
  obtain ⟨t, hrun, hidle⟩ := exists_run_to_idle s
  exact ⟨_, t, le_rfl, hrun, hidle⟩

/-- Settles O23: the reset input is `resetInput`, whose memory lists no cell and holds the new draw
in each of its parts. -/
theorem resetInputRestoresRegisters : Obligations.ResetInputRestoresRegisters := by
  intro s rest hin
  refine ⟨_, step_of_cons hin, rfl, fun k hk => palEntry_of_unwritten rfl hk, fun a ha => ?_⟩
  refine (read_of_unwritten_of_not_inPalmem rfl ha).trans ?_
  exact congrArg (Config.openByte · a) (ite_self _)

/-- Settles O7, by the reset value's part of the invariant's proof. -/
theorem resetMeetsInvariant : Obligations.ResetMeetsInvariant := State.Inv.reset

/-- Settles O24: nothing runs after reset, so each offset reads the word of its register. -/
theorem registersAfterReset : Obligations.RegistersAfterReset := by
  refine ⟨fun k hk => palEntry_of_unwritten rfl hk, rfl, rfl, fun p hp => hostRead_of_idle rfl ?_⟩
  fin_cases hp <;> rfl

end Sys2Proof.Machine
end
